-- ==== Sys2Proof/Word.lean ====
section
/-! DEFINITION. The two word sizes of the CPU (spec rules R2, R6). -/

namespace Sys2Proof

/-- A byte: the unit of memory and of the general registers (R2, R71). -/
abbrev Byte := BitVec 8

/-- A 16-bit word: an address, a register pair, SP or PC (R2, R70). -/
abbrev Word := BitVec 16

end Sys2Proof
end

