-- ==== Sys2Proof/Syntax.lean ====
section
/-! DEFINITION. The instructions: one constructor for each row of spec/opcode_table.json, and the operand names the rules
use. -/

namespace Sys2Proof

/-- An 8-bit general register (R30). -/
inductive Reg8 where
  | b | c | d | e | h | l | a
  deriving DecidableEq, Repr

/-- A 16-bit register of the pair table rp[] (R106). -/
inductive Reg16 where
  | bc | de | hl | sp
  deriving DecidableEq, Repr

/-- A pair of the table rp2[] of PUSH and POP (R106). -/
inductive StackReg where
  | bc | de | hl | af
  deriving DecidableEq, Repr

/-- A condition (R107, R370). -/
inductive Cond where
  | nz | z | nc | c
  deriving DecidableEq, Repr

/-- The 256 rows of the opcode table. `At` in a name stands for parentheses: `ldAtHlB` is `LD (HL), B`. The two rows
with the mnemonic `DI` are told apart by their byte (R121). The 244 instructions stand in opcode order; after them the
eleven unlisted bytes (R118) and the CB prefix (R119), which are rows but not instructions: `Instr.wellFormed` says
so. -/
inductive Instr where
  /-- 0x00 `NOP` (R410). -/
  | nop
  /-- 0x01 `LD BC, d16` (R222). -/
  | ldBcD16 (d16 : Word)
  /-- 0x02 `LD (BC), A` (R132). -/
  | ldAtBcA
  /-- 0x03 `INC BC` (R346). -/
  | incBc
  /-- 0x04 `INC B` (R250). -/
  | incB
  /-- 0x05 `DEC B` (R251). -/
  | decB
  /-- 0x06 `LD B, d8` (R136). -/
  | ldBD8 (d8 : Byte)
  /-- 0x07 `RLCA` (R361). -/
  | rlca
  /-- 0x08 `LD (a16), SP` (R226). -/
  | ldAtA16Sp (a16 : Word)
  /-- 0x09 `ADD HL, BC` (R350). -/
  | addHlBc
  /-- 0x0A `LD A, (BC)` (R133). -/
  | ldAAtBc
  /-- 0x0B `DEC BC` (R354). -/
  | decBc
  /-- 0x0C `INC C` (R252). -/
  | incC
  /-- 0x0D `DEC C` (R253). -/
  | decC
  /-- 0x0E `LD C, d8` (R137). -/
  | ldCD8 (d8 : Byte)
  /-- 0x0F `RRCA` (R362). -/
  | rrca
  /-- 0x10 `STOP` (R411). -/
  | stop
  /-- 0x11 `LD DE, d16` (R223). -/
  | ldDeD16 (d16 : Word)
  /-- 0x12 `LD (DE), A` (R134). -/
  | ldAtDeA
  /-- 0x13 `INC DE` (R347). -/
  | incDe
  /-- 0x14 `INC D` (R254). -/
  | incD
  /-- 0x15 `DEC D` (R255). -/
  | decD
  /-- 0x16 `LD D, d8` (R138). -/
  | ldDD8 (d8 : Byte)
  /-- 0x17 `RLA` (R363). -/
  | rla
  /-- 0x18 `JR r8` (R372). -/
  | jrR8 (r8 : Byte)
  /-- 0x19 `ADD HL, DE` (R351). -/
  | addHlDe
  /-- 0x1A `LD A, (DE)` (R135). -/
  | ldAAtDe
  /-- 0x1B `DEC DE` (R355). -/
  | decDe
  /-- 0x1C `INC E` (R256). -/
  | incE
  /-- 0x1D `DEC E` (R257). -/
  | decE
  /-- 0x1E `LD E, d8` (R139). -/
  | ldED8 (d8 : Byte)
  /-- 0x1F `RRA` (R364). -/
  | rra
  /-- 0x20 `JR NZ, r8` (R373). -/
  | jrNzR8 (r8 : Byte)
  /-- 0x21 `LD HL, d16` (R224). -/
  | ldHlD16 (d16 : Word)
  /-- 0x22 `LD (HL+), A` (R144). -/
  | ldAtHlIncA
  /-- 0x23 `INC HL` (R348). -/
  | incHl
  /-- 0x24 `INC H` (R258). -/
  | incH
  /-- 0x25 `DEC H` (R259). -/
  | decH
  /-- 0x26 `LD H, d8` (R140). -/
  | ldHD8 (d8 : Byte)
  /-- 0x27 `DAA` (R365). -/
  | daa
  /-- 0x28 `JR Z, r8` (R374). -/
  | jrZR8 (r8 : Byte)
  /-- 0x29 `ADD HL, HL` (R352). -/
  | addHlHl
  /-- 0x2A `LD A, (HL+)` (R145). -/
  | ldAAtHlInc
  /-- 0x2B `DEC HL` (R356). -/
  | decHl
  /-- 0x2C `INC L` (R260). -/
  | incL
  /-- 0x2D `DEC L` (R261). -/
  | decL
  /-- 0x2E `LD L, d8` (R141). -/
  | ldLD8 (d8 : Byte)
  /-- 0x2F `CPL` (R366). -/
  | cpl
  /-- 0x30 `JR NC, r8` (R375). -/
  | jrNcR8 (r8 : Byte)
  /-- 0x31 `LD SP, d16` (R225). -/
  | ldSpD16 (d16 : Word)
  /-- 0x32 `LD (HL-), A` (R146). -/
  | ldAtHlDecA
  /-- 0x33 `INC SP` (R349). -/
  | incSp
  /-- 0x34 `INC (HL)` (R262). -/
  | incAtHl
  /-- 0x35 `DEC (HL)` (R263). -/
  | decAtHl
  /-- 0x36 `LD (HL), d8` (R142). -/
  | ldAtHlD8 (d8 : Byte)
  /-- 0x37 `SCF` (R367). -/
  | scf
  /-- 0x38 `JR C, r8` (R376). -/
  | jrCR8 (r8 : Byte)
  /-- 0x39 `ADD HL, SP` (R353). -/
  | addHlSp
  /-- 0x3A `LD A, (HL-)` (R147). -/
  | ldAAtHlDec
  /-- 0x3B `DEC SP` (R357). -/
  | decSp
  /-- 0x3C `INC A` (R264). -/
  | incA
  /-- 0x3D `DEC A` (R265). -/
  | decA
  /-- 0x3E `LD A, d8` (R143). -/
  | ldAD8 (d8 : Byte)
  /-- 0x3F `CCF` (R368). -/
  | ccf
  /-- 0x40 `LD B, B` (R154). -/
  | ldBB
  /-- 0x41 `LD B, C` (R155). -/
  | ldBC
  /-- 0x42 `LD B, D` (R156). -/
  | ldBD
  /-- 0x43 `LD B, E` (R157). -/
  | ldBE
  /-- 0x44 `LD B, H` (R158). -/
  | ldBH
  /-- 0x45 `LD B, L` (R159). -/
  | ldBL
  /-- 0x46 `LD B, (HL)` (R160). -/
  | ldBAtHl
  /-- 0x47 `LD B, A` (R161). -/
  | ldBA
  /-- 0x48 `LD C, B` (R162). -/
  | ldCB
  /-- 0x49 `LD C, C` (R163). -/
  | ldCC
  /-- 0x4A `LD C, D` (R164). -/
  | ldCD
  /-- 0x4B `LD C, E` (R165). -/
  | ldCE
  /-- 0x4C `LD C, H` (R166). -/
  | ldCH
  /-- 0x4D `LD C, L` (R167). -/
  | ldCL
  /-- 0x4E `LD C, (HL)` (R168). -/
  | ldCAtHl
  /-- 0x4F `LD C, A` (R169). -/
  | ldCA
  /-- 0x50 `LD D, B` (R170). -/
  | ldDB
  /-- 0x51 `LD D, C` (R171). -/
  | ldDC
  /-- 0x52 `LD D, D` (R172). -/
  | ldDD
  /-- 0x53 `LD D, E` (R173). -/
  | ldDE
  /-- 0x54 `LD D, H` (R174). -/
  | ldDH
  /-- 0x55 `LD D, L` (R175). -/
  | ldDL
  /-- 0x56 `LD D, (HL)` (R176). -/
  | ldDAtHl
  /-- 0x57 `LD D, A` (R177). -/
  | ldDA
  /-- 0x58 `LD E, B` (R178). -/
  | ldEB
  /-- 0x59 `LD E, C` (R179). -/
  | ldEC
  /-- 0x5A `LD E, D` (R180). -/
  | ldED
  /-- 0x5B `LD E, E` (R181). -/
  | ldEE
  /-- 0x5C `LD E, H` (R182). -/
  | ldEH
  /-- 0x5D `LD E, L` (R183). -/
  | ldEL
  /-- 0x5E `LD E, (HL)` (R184). -/
  | ldEAtHl
  /-- 0x5F `LD E, A` (R185). -/
  | ldEA
  /-- 0x60 `LD H, B` (R186). -/
  | ldHB
  /-- 0x61 `LD H, C` (R187). -/
  | ldHC
  /-- 0x62 `LD H, D` (R188). -/
  | ldHD
  /-- 0x63 `LD H, E` (R189). -/
  | ldHE
  /-- 0x64 `LD H, H` (R190). -/
  | ldHH
  /-- 0x65 `LD H, L` (R191). -/
  | ldHL
  /-- 0x66 `LD H, (HL)` (R192). -/
  | ldHAtHl
  /-- 0x67 `LD H, A` (R193). -/
  | ldHA
  /-- 0x68 `LD L, B` (R194). -/
  | ldLB
  /-- 0x69 `LD L, C` (R195). -/
  | ldLC
  /-- 0x6A `LD L, D` (R196). -/
  | ldLD
  /-- 0x6B `LD L, E` (R197). -/
  | ldLE
  /-- 0x6C `LD L, H` (R198). -/
  | ldLH
  /-- 0x6D `LD L, L` (R199). -/
  | ldLL
  /-- 0x6E `LD L, (HL)` (R200). -/
  | ldLAtHl
  /-- 0x6F `LD L, A` (R201). -/
  | ldLA
  /-- 0x70 `LD (HL), B` (R202). -/
  | ldAtHlB
  /-- 0x71 `LD (HL), C` (R203). -/
  | ldAtHlC
  /-- 0x72 `LD (HL), D` (R204). -/
  | ldAtHlD
  /-- 0x73 `LD (HL), E` (R205). -/
  | ldAtHlE
  /-- 0x74 `LD (HL), H` (R206). -/
  | ldAtHlH
  /-- 0x75 `LD (HL), L` (R207). -/
  | ldAtHlL
  /-- 0x76 `HALT` (R412). -/
  | halt
  /-- 0x77 `LD (HL), A` (R208). -/
  | ldAtHlA
  /-- 0x78 `LD A, B` (R209). -/
  | ldAB
  /-- 0x79 `LD A, C` (R210). -/
  | ldAC
  /-- 0x7A `LD A, D` (R211). -/
  | ldAD
  /-- 0x7B `LD A, E` (R212). -/
  | ldAE
  /-- 0x7C `LD A, H` (R213). -/
  | ldAH
  /-- 0x7D `LD A, L` (R214). -/
  | ldAL
  /-- 0x7E `LD A, (HL)` (R215). -/
  | ldAAtHl
  /-- 0x7F `LD A, A` (R216). -/
  | ldAA
  /-- 0x80 `ADD A, B` (R266). -/
  | addAB
  /-- 0x81 `ADD A, C` (R267). -/
  | addAC
  /-- 0x82 `ADD A, D` (R268). -/
  | addAD
  /-- 0x83 `ADD A, E` (R269). -/
  | addAE
  /-- 0x84 `ADD A, H` (R270). -/
  | addAH
  /-- 0x85 `ADD A, L` (R271). -/
  | addAL
  /-- 0x86 `ADD A, (HL)` (R272). -/
  | addAAtHl
  /-- 0x87 `ADD A, A` (R273). -/
  | addAA
  /-- 0x88 `ADC A, B` (R274). -/
  | adcAB
  /-- 0x89 `ADC A, C` (R275). -/
  | adcAC
  /-- 0x8A `ADC A, D` (R276). -/
  | adcAD
  /-- 0x8B `ADC A, E` (R277). -/
  | adcAE
  /-- 0x8C `ADC A, H` (R278). -/
  | adcAH
  /-- 0x8D `ADC A, L` (R279). -/
  | adcAL
  /-- 0x8E `ADC A, (HL)` (R280). -/
  | adcAAtHl
  /-- 0x8F `ADC A, A` (R281). -/
  | adcAA
  /-- 0x90 `SUB B` (R282). -/
  | subB
  /-- 0x91 `SUB C` (R283). -/
  | subC
  /-- 0x92 `SUB D` (R284). -/
  | subD
  /-- 0x93 `SUB E` (R285). -/
  | subE
  /-- 0x94 `SUB H` (R286). -/
  | subH
  /-- 0x95 `SUB L` (R287). -/
  | subL
  /-- 0x96 `SUB (HL)` (R288). -/
  | subAtHl
  /-- 0x97 `SUB A` (R289). -/
  | subA
  /-- 0x98 `SBC A, B` (R290). -/
  | sbcAB
  /-- 0x99 `SBC A, C` (R291). -/
  | sbcAC
  /-- 0x9A `SBC A, D` (R292). -/
  | sbcAD
  /-- 0x9B `SBC A, E` (R293). -/
  | sbcAE
  /-- 0x9C `SBC A, H` (R294). -/
  | sbcAH
  /-- 0x9D `SBC A, L` (R295). -/
  | sbcAL
  /-- 0x9E `SBC A, (HL)` (R296). -/
  | sbcAAtHl
  /-- 0x9F `SBC A, A` (R297). -/
  | sbcAA
  /-- 0xA0 `AND B` (R305). -/
  | andB
  /-- 0xA1 `AND C` (R306). -/
  | andC
  /-- 0xA2 `AND D` (R307). -/
  | andD
  /-- 0xA3 `AND E` (R308). -/
  | andE
  /-- 0xA4 `AND H` (R309). -/
  | andH
  /-- 0xA5 `AND L` (R310). -/
  | andL
  /-- 0xA6 `AND (HL)` (R311). -/
  | andAtHl
  /-- 0xA7 `AND A` (R312). -/
  | andA
  /-- 0xA8 `XOR B` (R313). -/
  | xorB
  /-- 0xA9 `XOR C` (R314). -/
  | xorC
  /-- 0xAA `XOR D` (R315). -/
  | xorD
  /-- 0xAB `XOR E` (R316). -/
  | xorE
  /-- 0xAC `XOR H` (R317). -/
  | xorH
  /-- 0xAD `XOR L` (R318). -/
  | xorL
  /-- 0xAE `XOR (HL)` (R319). -/
  | xorAtHl
  /-- 0xAF `XOR A` (R320). -/
  | xorA
  /-- 0xB0 `OR B` (R321). -/
  | orB
  /-- 0xB1 `OR C` (R322). -/
  | orC
  /-- 0xB2 `OR D` (R323). -/
  | orD
  /-- 0xB3 `OR E` (R324). -/
  | orE
  /-- 0xB4 `OR H` (R325). -/
  | orH
  /-- 0xB5 `OR L` (R326). -/
  | orL
  /-- 0xB6 `OR (HL)` (R327). -/
  | orAtHl
  /-- 0xB7 `OR A` (R328). -/
  | orA
  /-- 0xB8 `CP B` (R329). -/
  | cpB
  /-- 0xB9 `CP C` (R330). -/
  | cpC
  /-- 0xBA `CP D` (R331). -/
  | cpD
  /-- 0xBB `CP E` (R332). -/
  | cpE
  /-- 0xBC `CP H` (R333). -/
  | cpH
  /-- 0xBD `CP L` (R334). -/
  | cpL
  /-- 0xBE `CP (HL)` (R335). -/
  | cpAtHl
  /-- 0xBF `CP A` (R336). -/
  | cpA
  /-- 0xC0 `RET NZ` (R377). -/
  | retNz
  /-- 0xC1 `POP BC` (R227). -/
  | popBc
  /-- 0xC2 `JP NZ, a16` (R382). -/
  | jpNzA16 (a16 : Word)
  /-- 0xC3 `JP a16` (R383). -/
  | jpA16 (a16 : Word)
  /-- 0xC4 `CALL NZ, a16` (R388). -/
  | callNzA16 (a16 : Word)
  /-- 0xC5 `PUSH BC` (R228). -/
  | pushBc
  /-- 0xC6 `ADD A, d8` (R298). -/
  | addAD8 (d8 : Byte)
  /-- 0xC7 `RST 00H` (R393). -/
  | rst00
  /-- 0xC8 `RET Z` (R378). -/
  | retZ
  /-- 0xC9 `RET` (R379). -/
  | ret
  /-- 0xCA `JP Z, a16` (R384). -/
  | jpZA16 (a16 : Word)
  /-- 0xCC `CALL Z, a16` (R389). -/
  | callZA16 (a16 : Word)
  /-- 0xCD `CALL a16` (R390). -/
  | callA16 (a16 : Word)
  /-- 0xCE `ADC A, d8` (R299). -/
  | adcAD8 (d8 : Byte)
  /-- 0xCF `RST 08H` (R394). -/
  | rst08
  /-- 0xD0 `RET NC` (R380). -/
  | retNc
  /-- 0xD1 `POP DE` (R229). -/
  | popDe
  /-- 0xD2 `JP NC, a16` (R385). -/
  | jpNcA16 (a16 : Word)
  /-- 0xD4 `CALL NC, a16` (R391). -/
  | callNcA16 (a16 : Word)
  /-- 0xD5 `PUSH DE` (R230). -/
  | pushDe
  /-- 0xD6 `SUB d8` (R300). -/
  | subD8 (d8 : Byte)
  /-- 0xD7 `RST 10H` (R395). -/
  | rst10
  /-- 0xD8 `RET C` (R381). -/
  | retC
  /-- 0xD9 `DI` (R414). -/
  | diD9
  /-- 0xDA `JP C, a16` (R386). -/
  | jpCA16 (a16 : Word)
  /-- 0xDC `CALL C, a16` (R392). -/
  | callCA16 (a16 : Word)
  /-- 0xDE `SBC A, d8` (R301). -/
  | sbcAD8 (d8 : Byte)
  /-- 0xDF `RST 18H` (R396). -/
  | rst18
  /-- 0xE0 `LD (FF00+a8), A` (R148). -/
  | ldAtIoA8A (a8 : Byte)
  /-- 0xE1 `POP HL` (R231). -/
  | popHl
  /-- 0xE2 `LD (FF00+C), A` (R149). -/
  | ldAtIoCA
  /-- 0xE5 `PUSH HL` (R232). -/
  | pushHl
  /-- 0xE6 `AND d8` (R337). -/
  | andD8 (d8 : Byte)
  /-- 0xE7 `RST 20H` (R397). -/
  | rst20
  /-- 0xE8 `ADD SP, r8` (R358). -/
  | addSpR8 (r8 : Byte)
  /-- 0xE9 `JP HL` (R387). -/
  | jpHl
  /-- 0xEA `LD (a16), A` (R150). -/
  | ldAtA16A (a16 : Word)
  /-- 0xEE `XOR d8` (R338). -/
  | xorD8 (d8 : Byte)
  /-- 0xEF `RST 28H` (R398). -/
  | rst28
  /-- 0xF0 `LD A, (FF00+a8)` (R151). -/
  | ldAAtIoA8 (a8 : Byte)
  /-- 0xF1 `POP AF` (R233). -/
  | popAf
  /-- 0xF2 `LD A, (FF00+C)` (R152). -/
  | ldAAtIoC
  /-- 0xF3 `DI` (R413). -/
  | diF3
  /-- 0xF5 `PUSH AF` (R234). -/
  | pushAf
  /-- 0xF6 `OR d8` (R339). -/
  | orD8 (d8 : Byte)
  /-- 0xF7 `RST 30H` (R399). -/
  | rst30
  /-- 0xF8 `LD HL, SP+r8` (R235). -/
  | ldHlSpR8 (r8 : Byte)
  /-- 0xF9 `LD SP, HL` (R236). -/
  | ldSpHl
  /-- 0xFA `LD A, (a16)` (R153). -/
  | ldAAtA16 (a16 : Word)
  /-- 0xFB `EI` (R415). -/
  | ei
  /-- 0xFE `CP d8` (R340). -/
  | cpD8 (d8 : Byte)
  /-- 0xFF `RST 38H` (R400). -/
  | rst38
  /-- 0xCB `(CB prefix)` (R416). -/
  | cbPrefix
  /-- 0xD3 `(unlisted 0xD3)` (R417). -/
  | unlistedD3
  /-- 0xDB `(unlisted 0xDB)` (R417). -/
  | unlistedDB
  /-- 0xDD `(unlisted 0xDD)` (R417). -/
  | unlistedDD
  /-- 0xE3 `(unlisted 0xE3)` (R417). -/
  | unlistedE3
  /-- 0xE4 `(unlisted 0xE4)` (R417). -/
  | unlistedE4
  /-- 0xEB `(unlisted 0xEB)` (R417). -/
  | unlistedEB
  /-- 0xEC `(unlisted 0xEC)` (R417). -/
  | unlistedEC
  /-- 0xED `(unlisted 0xED)` (R417). -/
  | unlistedED
  /-- 0xF4 `(unlisted 0xF4)` (R417). -/
  | unlistedF4
  /-- 0xFC `(unlisted 0xFC)` (R417). -/
  | unlistedFC
  /-- 0xFD `(unlisted 0xFD)` (R417). -/
  | unlistedFD
  deriving DecidableEq, Repr

end Sys2Proof
end

