-- ==== Sys2Proof/Decode.lean ====
section
/-! DEFINITION. The decoder, written from the 16 by 16 opcode map (R114 to R117), and after it the encoder. -/

namespace Sys2Proof

/-- hi:lo, the 16-bit value 256 x hi + lo (R9, R113). -/
def joinBytes (hi lo : Byte) : Word := hi ++ lo

/-- v[15:8] (R9). -/
def highByte (v : Word) : Byte := v.extractLsb' 8 8

/-- v[7:0] (R9). -/
def lowByte (v : Word) : Byte := v.extractLsb' 0 8

/-- What the opcode byte selects: an instruction, or one that waits for an operand of one byte (R102) or of two,
the low byte first (R103, R113). -/
inductive Row where
  | op (i : Instr)
  | operand8 (form : Byte → Instr)
  | operand16 (form : Word → Instr)

/-- How many bytes the row's instruction takes (R100, R122). -/
def Row.length : Row → Nat
  | .op _ => 1
  | .operand8 _ => 2
  | .operand16 _ => 3

/-- The row 0x of the opcode map. -/
def opcodeRow0 : List Row := [
  .op .nop, .operand16 .ldBcD16, .op .ldAtBcA, .op .incBc,
  .op .incB, .op .decB, .operand8 .ldBD8, .op .rlca,
  .operand16 .ldAtA16Sp, .op .addHlBc, .op .ldAAtBc, .op .decBc,
  .op .incC, .op .decC, .operand8 .ldCD8, .op .rrca]

/-- The row 1x of the opcode map. -/
def opcodeRow1 : List Row := [
  .op .stop, .operand16 .ldDeD16, .op .ldAtDeA, .op .incDe,
  .op .incD, .op .decD, .operand8 .ldDD8, .op .rla,
  .operand8 .jrR8, .op .addHlDe, .op .ldAAtDe, .op .decDe,
  .op .incE, .op .decE, .operand8 .ldED8, .op .rra]

/-- The row 2x of the opcode map. -/
def opcodeRow2 : List Row := [
  .operand8 .jrNzR8, .operand16 .ldHlD16, .op .ldAtHlIncA, .op .incHl,
  .op .incH, .op .decH, .operand8 .ldHD8, .op .daa,
  .operand8 .jrZR8, .op .addHlHl, .op .ldAAtHlInc, .op .decHl,
  .op .incL, .op .decL, .operand8 .ldLD8, .op .cpl]

/-- The row 3x of the opcode map. -/
def opcodeRow3 : List Row := [
  .operand8 .jrNcR8, .operand16 .ldSpD16, .op .ldAtHlDecA, .op .incSp,
  .op .incAtHl, .op .decAtHl, .operand8 .ldAtHlD8, .op .scf,
  .operand8 .jrCR8, .op .addHlSp, .op .ldAAtHlDec, .op .decSp,
  .op .incA, .op .decA, .operand8 .ldAD8, .op .ccf]

/-- The row 4x of the opcode map. -/
def opcodeRow4 : List Row := [
  .op .ldBB, .op .ldBC, .op .ldBD, .op .ldBE,
  .op .ldBH, .op .ldBL, .op .ldBAtHl, .op .ldBA,
  .op .ldCB, .op .ldCC, .op .ldCD, .op .ldCE,
  .op .ldCH, .op .ldCL, .op .ldCAtHl, .op .ldCA]

/-- The row 5x of the opcode map. -/
def opcodeRow5 : List Row := [
  .op .ldDB, .op .ldDC, .op .ldDD, .op .ldDE,
  .op .ldDH, .op .ldDL, .op .ldDAtHl, .op .ldDA,
  .op .ldEB, .op .ldEC, .op .ldED, .op .ldEE,
  .op .ldEH, .op .ldEL, .op .ldEAtHl, .op .ldEA]

/-- The row 6x of the opcode map. -/
def opcodeRow6 : List Row := [
  .op .ldHB, .op .ldHC, .op .ldHD, .op .ldHE,
  .op .ldHH, .op .ldHL, .op .ldHAtHl, .op .ldHA,
  .op .ldLB, .op .ldLC, .op .ldLD, .op .ldLE,
  .op .ldLH, .op .ldLL, .op .ldLAtHl, .op .ldLA]

/-- The row 7x of the opcode map. -/
def opcodeRow7 : List Row := [
  .op .ldAtHlB, .op .ldAtHlC, .op .ldAtHlD, .op .ldAtHlE,
  .op .ldAtHlH, .op .ldAtHlL, .op .halt, .op .ldAtHlA,
  .op .ldAB, .op .ldAC, .op .ldAD, .op .ldAE,
  .op .ldAH, .op .ldAL, .op .ldAAtHl, .op .ldAA]

/-- The row 8x of the opcode map. -/
def opcodeRow8 : List Row := [
  .op .addAB, .op .addAC, .op .addAD, .op .addAE,
  .op .addAH, .op .addAL, .op .addAAtHl, .op .addAA,
  .op .adcAB, .op .adcAC, .op .adcAD, .op .adcAE,
  .op .adcAH, .op .adcAL, .op .adcAAtHl, .op .adcAA]

/-- The row 9x of the opcode map. -/
def opcodeRow9 : List Row := [
  .op .subB, .op .subC, .op .subD, .op .subE,
  .op .subH, .op .subL, .op .subAtHl, .op .subA,
  .op .sbcAB, .op .sbcAC, .op .sbcAD, .op .sbcAE,
  .op .sbcAH, .op .sbcAL, .op .sbcAAtHl, .op .sbcAA]

/-- The row Ax of the opcode map. -/
def opcodeRowA : List Row := [
  .op .andB, .op .andC, .op .andD, .op .andE,
  .op .andH, .op .andL, .op .andAtHl, .op .andA,
  .op .xorB, .op .xorC, .op .xorD, .op .xorE,
  .op .xorH, .op .xorL, .op .xorAtHl, .op .xorA]

/-- The row Bx of the opcode map. -/
def opcodeRowB : List Row := [
  .op .orB, .op .orC, .op .orD, .op .orE,
  .op .orH, .op .orL, .op .orAtHl, .op .orA,
  .op .cpB, .op .cpC, .op .cpD, .op .cpE,
  .op .cpH, .op .cpL, .op .cpAtHl, .op .cpA]

/-- The row Cx of the opcode map. -/
def opcodeRowC : List Row := [
  .op .retNz, .op .popBc, .operand16 .jpNzA16, .operand16 .jpA16,
  .operand16 .callNzA16, .op .pushBc, .operand8 .addAD8, .op .rst00,
  .op .retZ, .op .ret, .operand16 .jpZA16, .op .cbPrefix,
  .operand16 .callZA16, .operand16 .callA16, .operand8 .adcAD8, .op .rst08]

/-- The row Dx of the opcode map. -/
def opcodeRowD : List Row := [
  .op .retNc, .op .popDe, .operand16 .jpNcA16, .op .unlistedD3,
  .operand16 .callNcA16, .op .pushDe, .operand8 .subD8, .op .rst10,
  .op .retC, .op .diD9, .operand16 .jpCA16, .op .unlistedDB,
  .operand16 .callCA16, .op .unlistedDD, .operand8 .sbcAD8, .op .rst18]

/-- The row Ex of the opcode map. -/
def opcodeRowE : List Row := [
  .operand8 .ldAtIoA8A, .op .popHl, .op .ldAtIoCA, .op .unlistedE3,
  .op .unlistedE4, .op .pushHl, .operand8 .andD8, .op .rst20,
  .operand8 .addSpR8, .op .jpHl, .operand16 .ldAtA16A, .op .unlistedEB,
  .op .unlistedEC, .op .unlistedED, .operand8 .xorD8, .op .rst28]

/-- The row Fx of the opcode map. -/
def opcodeRowF : List Row := [
  .operand8 .ldAAtIoA8, .op .popAf, .op .ldAAtIoC, .op .diF3,
  .op .unlistedF4, .op .pushAf, .operand8 .orD8, .op .rst30,
  .operand8 .ldHlSpR8, .op .ldSpHl, .operand16 .ldAAtA16, .op .ei,
  .op .unlistedFC, .op .unlistedFD, .operand8 .cpD8, .op .rst38]

/-- The opcode map: the row of each of the 256 first-byte values (R114 to R119). -/
def opcodeTable : List Row :=
  opcodeRow0 ++ opcodeRow1 ++ opcodeRow2 ++ opcodeRow3 ++
  opcodeRow4 ++ opcodeRow5 ++ opcodeRow6 ++ opcodeRow7 ++
  opcodeRow8 ++ opcodeRow9 ++ opcodeRowA ++ opcodeRowB ++
  opcodeRowC ++ opcodeRowD ++ opcodeRowE ++ opcodeRowF

theorem opcodeTable_length : opcodeTable.length = 256 := by decide +kernel

/-- The row of an opcode byte: the first byte alone selects it (R100, R122). -/
def opcodeRow (op : Byte) : Row := opcodeTable[op.toNat]'(by rw [opcodeTable_length]; exact op.isLt)

/-- Why a string of bytes holds no whole instruction. -/
inductive DecodeError where
  /-- There is no byte at all. -/
  | noBytes
  /-- An operand byte of the opcode is missing. -/
  | missingOperand (op : Byte)
  deriving DecidableEq, Repr

/-- Decode the instruction at the head of a string of bytes, and give the bytes left over (R122). Every first byte
has its row; only a string that ends too early is rejected. -/
def decode : List Byte → Except DecodeError (Instr × List Byte)
  | [] => .error .noBytes
  | op :: rest =>
    match opcodeRow op, rest with
    | .op i, t => .ok (i, t)
    | .operand8 form, b1 :: t => .ok (form b1, t)
    | .operand8 _, [] => .error (.missingOperand op)
    | .operand16 form, b1 :: b2 :: t => .ok (form (joinBytes b2 b1), t)
    | .operand16 _, [_] => .error (.missingOperand op)
    | .operand16 _, [] => .error (.missingOperand op)

/-- The bytes of an instruction, the first at the lowest address (R101 to R103, R113). -/
def encode : Instr → List Byte
  | .nop => [0x00]
  | .ldBcD16 d16 => [0x01, lowByte d16, highByte d16]
  | .ldAtBcA => [0x02]
  | .incBc => [0x03]
  | .incB => [0x04]
  | .decB => [0x05]
  | .ldBD8 d8 => [0x06, d8]
  | .rlca => [0x07]
  | .ldAtA16Sp a16 => [0x08, lowByte a16, highByte a16]
  | .addHlBc => [0x09]
  | .ldAAtBc => [0x0A]
  | .decBc => [0x0B]
  | .incC => [0x0C]
  | .decC => [0x0D]
  | .ldCD8 d8 => [0x0E, d8]
  | .rrca => [0x0F]
  | .stop => [0x10]
  | .ldDeD16 d16 => [0x11, lowByte d16, highByte d16]
  | .ldAtDeA => [0x12]
  | .incDe => [0x13]
  | .incD => [0x14]
  | .decD => [0x15]
  | .ldDD8 d8 => [0x16, d8]
  | .rla => [0x17]
  | .jrR8 r8 => [0x18, r8]
  | .addHlDe => [0x19]
  | .ldAAtDe => [0x1A]
  | .decDe => [0x1B]
  | .incE => [0x1C]
  | .decE => [0x1D]
  | .ldED8 d8 => [0x1E, d8]
  | .rra => [0x1F]
  | .jrNzR8 r8 => [0x20, r8]
  | .ldHlD16 d16 => [0x21, lowByte d16, highByte d16]
  | .ldAtHlIncA => [0x22]
  | .incHl => [0x23]
  | .incH => [0x24]
  | .decH => [0x25]
  | .ldHD8 d8 => [0x26, d8]
  | .daa => [0x27]
  | .jrZR8 r8 => [0x28, r8]
  | .addHlHl => [0x29]
  | .ldAAtHlInc => [0x2A]
  | .decHl => [0x2B]
  | .incL => [0x2C]
  | .decL => [0x2D]
  | .ldLD8 d8 => [0x2E, d8]
  | .cpl => [0x2F]
  | .jrNcR8 r8 => [0x30, r8]
  | .ldSpD16 d16 => [0x31, lowByte d16, highByte d16]
  | .ldAtHlDecA => [0x32]
  | .incSp => [0x33]
  | .incAtHl => [0x34]
  | .decAtHl => [0x35]
  | .ldAtHlD8 d8 => [0x36, d8]
  | .scf => [0x37]
  | .jrCR8 r8 => [0x38, r8]
  | .addHlSp => [0x39]
  | .ldAAtHlDec => [0x3A]
  | .decSp => [0x3B]
  | .incA => [0x3C]
  | .decA => [0x3D]
  | .ldAD8 d8 => [0x3E, d8]
  | .ccf => [0x3F]
  | .ldBB => [0x40]
  | .ldBC => [0x41]
  | .ldBD => [0x42]
  | .ldBE => [0x43]
  | .ldBH => [0x44]
  | .ldBL => [0x45]
  | .ldBAtHl => [0x46]
  | .ldBA => [0x47]
  | .ldCB => [0x48]
  | .ldCC => [0x49]
  | .ldCD => [0x4A]
  | .ldCE => [0x4B]
  | .ldCH => [0x4C]
  | .ldCL => [0x4D]
  | .ldCAtHl => [0x4E]
  | .ldCA => [0x4F]
  | .ldDB => [0x50]
  | .ldDC => [0x51]
  | .ldDD => [0x52]
  | .ldDE => [0x53]
  | .ldDH => [0x54]
  | .ldDL => [0x55]
  | .ldDAtHl => [0x56]
  | .ldDA => [0x57]
  | .ldEB => [0x58]
  | .ldEC => [0x59]
  | .ldED => [0x5A]
  | .ldEE => [0x5B]
  | .ldEH => [0x5C]
  | .ldEL => [0x5D]
  | .ldEAtHl => [0x5E]
  | .ldEA => [0x5F]
  | .ldHB => [0x60]
  | .ldHC => [0x61]
  | .ldHD => [0x62]
  | .ldHE => [0x63]
  | .ldHH => [0x64]
  | .ldHL => [0x65]
  | .ldHAtHl => [0x66]
  | .ldHA => [0x67]
  | .ldLB => [0x68]
  | .ldLC => [0x69]
  | .ldLD => [0x6A]
  | .ldLE => [0x6B]
  | .ldLH => [0x6C]
  | .ldLL => [0x6D]
  | .ldLAtHl => [0x6E]
  | .ldLA => [0x6F]
  | .ldAtHlB => [0x70]
  | .ldAtHlC => [0x71]
  | .ldAtHlD => [0x72]
  | .ldAtHlE => [0x73]
  | .ldAtHlH => [0x74]
  | .ldAtHlL => [0x75]
  | .halt => [0x76]
  | .ldAtHlA => [0x77]
  | .ldAB => [0x78]
  | .ldAC => [0x79]
  | .ldAD => [0x7A]
  | .ldAE => [0x7B]
  | .ldAH => [0x7C]
  | .ldAL => [0x7D]
  | .ldAAtHl => [0x7E]
  | .ldAA => [0x7F]
  | .addAB => [0x80]
  | .addAC => [0x81]
  | .addAD => [0x82]
  | .addAE => [0x83]
  | .addAH => [0x84]
  | .addAL => [0x85]
  | .addAAtHl => [0x86]
  | .addAA => [0x87]
  | .adcAB => [0x88]
  | .adcAC => [0x89]
  | .adcAD => [0x8A]
  | .adcAE => [0x8B]
  | .adcAH => [0x8C]
  | .adcAL => [0x8D]
  | .adcAAtHl => [0x8E]
  | .adcAA => [0x8F]
  | .subB => [0x90]
  | .subC => [0x91]
  | .subD => [0x92]
  | .subE => [0x93]
  | .subH => [0x94]
  | .subL => [0x95]
  | .subAtHl => [0x96]
  | .subA => [0x97]
  | .sbcAB => [0x98]
  | .sbcAC => [0x99]
  | .sbcAD => [0x9A]
  | .sbcAE => [0x9B]
  | .sbcAH => [0x9C]
  | .sbcAL => [0x9D]
  | .sbcAAtHl => [0x9E]
  | .sbcAA => [0x9F]
  | .andB => [0xA0]
  | .andC => [0xA1]
  | .andD => [0xA2]
  | .andE => [0xA3]
  | .andH => [0xA4]
  | .andL => [0xA5]
  | .andAtHl => [0xA6]
  | .andA => [0xA7]
  | .xorB => [0xA8]
  | .xorC => [0xA9]
  | .xorD => [0xAA]
  | .xorE => [0xAB]
  | .xorH => [0xAC]
  | .xorL => [0xAD]
  | .xorAtHl => [0xAE]
  | .xorA => [0xAF]
  | .orB => [0xB0]
  | .orC => [0xB1]
  | .orD => [0xB2]
  | .orE => [0xB3]
  | .orH => [0xB4]
  | .orL => [0xB5]
  | .orAtHl => [0xB6]
  | .orA => [0xB7]
  | .cpB => [0xB8]
  | .cpC => [0xB9]
  | .cpD => [0xBA]
  | .cpE => [0xBB]
  | .cpH => [0xBC]
  | .cpL => [0xBD]
  | .cpAtHl => [0xBE]
  | .cpA => [0xBF]
  | .retNz => [0xC0]
  | .popBc => [0xC1]
  | .jpNzA16 a16 => [0xC2, lowByte a16, highByte a16]
  | .jpA16 a16 => [0xC3, lowByte a16, highByte a16]
  | .callNzA16 a16 => [0xC4, lowByte a16, highByte a16]
  | .pushBc => [0xC5]
  | .addAD8 d8 => [0xC6, d8]
  | .rst00 => [0xC7]
  | .retZ => [0xC8]
  | .ret => [0xC9]
  | .jpZA16 a16 => [0xCA, lowByte a16, highByte a16]
  | .callZA16 a16 => [0xCC, lowByte a16, highByte a16]
  | .callA16 a16 => [0xCD, lowByte a16, highByte a16]
  | .adcAD8 d8 => [0xCE, d8]
  | .rst08 => [0xCF]
  | .retNc => [0xD0]
  | .popDe => [0xD1]
  | .jpNcA16 a16 => [0xD2, lowByte a16, highByte a16]
  | .callNcA16 a16 => [0xD4, lowByte a16, highByte a16]
  | .pushDe => [0xD5]
  | .subD8 d8 => [0xD6, d8]
  | .rst10 => [0xD7]
  | .retC => [0xD8]
  | .diD9 => [0xD9]
  | .jpCA16 a16 => [0xDA, lowByte a16, highByte a16]
  | .callCA16 a16 => [0xDC, lowByte a16, highByte a16]
  | .sbcAD8 d8 => [0xDE, d8]
  | .rst18 => [0xDF]
  | .ldAtIoA8A a8 => [0xE0, a8]
  | .popHl => [0xE1]
  | .ldAtIoCA => [0xE2]
  | .pushHl => [0xE5]
  | .andD8 d8 => [0xE6, d8]
  | .rst20 => [0xE7]
  | .addSpR8 r8 => [0xE8, r8]
  | .jpHl => [0xE9]
  | .ldAtA16A a16 => [0xEA, lowByte a16, highByte a16]
  | .xorD8 d8 => [0xEE, d8]
  | .rst28 => [0xEF]
  | .ldAAtIoA8 a8 => [0xF0, a8]
  | .popAf => [0xF1]
  | .ldAAtIoC => [0xF2]
  | .diF3 => [0xF3]
  | .pushAf => [0xF5]
  | .orD8 d8 => [0xF6, d8]
  | .rst30 => [0xF7]
  | .ldHlSpR8 r8 => [0xF8, r8]
  | .ldSpHl => [0xF9]
  | .ldAAtA16 a16 => [0xFA, lowByte a16, highByte a16]
  | .ei => [0xFB]
  | .cpD8 d8 => [0xFE, d8]
  | .rst38 => [0xFF]
  | .cbPrefix => [0xCB]
  | .unlistedD3 => [0xD3]
  | .unlistedDB => [0xDB]
  | .unlistedDD => [0xDD]
  | .unlistedE3 => [0xE3]
  | .unlistedE4 => [0xE4]
  | .unlistedEB => [0xEB]
  | .unlistedEC => [0xEC]
  | .unlistedED => [0xED]
  | .unlistedF4 => [0xF4]
  | .unlistedFC => [0xFC]
  | .unlistedFD => [0xFD]

/-- The three bytes of an instruction whose bits are w, bit 0 the lowest bit of the first byte; every bit from nbits
on is 0. -/
def tableBytes (nbits w : Nat) : List Byte :=
  let v := w % 2 ^ nbits
  [BitVec.ofNat 8 v, BitVec.ofNat 8 (v / 256), BitVec.ofNat 8 (v / 65536)]

/-- The instruction that the decoder reads from an instruction whose bits are w. -/
def decodeTableWord (nbits w : Nat) : Option Instr :=
  match decode (tableBytes nbits w) with
  | .ok (i, _) => some i
  | .error _ => none

end Sys2Proof
end

