-- ==== Sys2Proof/Config.lean ====
section
/-! DEFINITION. What the spec leaves to the user of a model as a named parameter (R8), as plain data. -/

namespace Sys2Proof

/-- The parameter `D9_MEANING`: what opcode 0xD9 does (R414, decision D11). -/
inductive D9Meaning where
  /-- The source's row: a second `DI`. The default. -/
  | di
  /-- The reading of general knowledge: pop pc and set IME at once. -/
  | reti
  deriving DecidableEq, Repr

/-- The parameter `STOP_LENGTH` (R411, decision D12). -/
inductive StopLength where
  /-- The source's Length value, 1. The default. -/
  | one
  /-- Two bytes: the byte after 0x10 is fetched and discarded. -/
  | two
  deriving DecidableEq, Repr

/-- The state of the platform's own bus, `BusState` of R72, as plain data. What the numbers stand for is the
platform's. -/
abbrev BusState := List Nat

/-- The instance of the parameter `Bus` (R8, R72, decision D17). -/
inductive BusInstance where
  /-- `FlatRAM`: every location is a plain byte. The default (R73). -/
  | flatRam
  /-- The platform's own bus: `Config.busRead` and `Config.busWrite`, of which nothing is known (log 3). -/
  | platform
  deriving DecidableEq, Repr

/-- The instance of the platform's interrupt interface (R506 to R508, decision D13). -/
inductive IrqInstance where
  /-- `NoInterrupts`: no interrupt is ever requested. The default (R506). -/
  | noInterrupts
  /-- The environment draws the requests (R506, last sentence). DESIGN CHOICE, log 5: they are held as a list
  of handler addresses in the order in which they would be served. -/
  | external
  /-- The Game Boy's registers IE at 0xFFFF and IF at 0xFF0F as R507 describes them: bits 7 to 5 of IF read as 1
  and ignore writes. -/
  | gameBoy
  /-- The same with IE and IF as two plain bytes of FlatRAM: the simplified instance that section 2.10 of
  95_test_vectors.md uses. -/
  | gameBoyFlat
  /-- The platform's own interface over the state of its bus: `Config.irqOffer`, of which nothing is known
  (R506, log 3). -/
  | platform
  deriving DecidableEq, Repr

/-- The parameters in force for a machine. No step changes them. -/
structure Config where
  d9Meaning : D9Meaning
  stopLength : StopLength
  irq : IrqInstance
  bus : BusInstance
  deriving DecidableEq, Repr

/-- The spec's default of every parameter (R8). -/
def Config.standard : Config := { d9Meaning := .di, stopLength := .one, irq := .noInterrupts, bus := .flatRam }

/-- `read` of the platform's bus: the byte, and the state the read leaves, which may differ (R72). Free: no body, so
a claim holds for every platform (log 3). -/
opaque Config.busRead : BusState → Word → Byte × BusState

/-- `write` of the platform's bus: the state it leaves; a write may be ignored, stored or acted on (R72). Free
(log 3). -/
opaque Config.busWrite : BusState → Word → Byte → BusState

/-- The interrupt interface of the platform: none where `IrqRequested` is false, else what `IrqSelect` answers, the
vector and the state in which that request is acknowledged (R506). Free (log 3). -/
opaque Config.irqOffer : BusState → Option (Word × BusState)

/-- What a memory location that nothing has written reads as. DESIGN CHOICE, unsafe (log 2): 0x00, the
convention of 95_test_vectors.md. -/
def Config.unlistedByte : Byte := 0x00

end Sys2Proof
end

