-- ==== Sys2Proof/Machine/State.lean ====
section
/-! DEFINITION. The state of the machine (R45), the reasons a step can stop (R13), and reset (R46, R560). -/

namespace Sys2Proof.Machine

/-- `mode` (R40). -/
inductive Mode where
  | running
  | halted
  | stopped
  deriving DecidableEq, Repr

/-- One single-byte bus access (R12, R76): a `MemRead` with the byte it returned, or a `MemWrite` with the byte
the CPU put on the bus. -/
inductive BusAccess where
  | read (addr : Word) (value : Byte)
  | write (addr : Word) (value : Byte)
  deriving DecidableEq, Repr

/-- What the platform delivers to one step, before the step's first stage (R506, R508, R516; log 6). -/
structure PlatformInput where
  /-- `ButtonPress` at this step (R516). -/
  buttonPress : Bool
  /-- Under the instance `external`: the requests as the environment draws them for this step, or none where
  they stay as they are (R506). -/
  requests : Option (List Word)
  /-- Under the Game Boy instance: the sources whose event happens now; bit i sets bit i of IF (R507, R508). -/
  events : BitVec 5
  /-- The state in which this step finds the platform's own bus, where its devices have moved by themselves, or none
  where it stays as it is (R90, R506). -/
  bus : Option BusState
  deriving DecidableEq, Repr

/-- Memory: the bytes that differ from what an unlisted address reads as, by strictly rising address (R71). -/
abbrev Memory := List Host.Cell

/-- The complete state: the thirteen components of R45, the platform's state, and the parameters in force. -/
@[ext]
structure State where
  /-- A, the accumulator (R30). -/
  a : Byte
  /-- F, the flag register: Z N H C in bits 7 to 4, bits 3 to 0 are 0 (R31, R36). -/
  f : Byte
  b : Byte
  c : Byte
  d : Byte
  e : Byte
  h : Byte
  l : Byte
  /-- The stack pointer (R33). -/
  sp : Word
  /-- The program counter: between steps the address of the next opcode byte, inside an instruction's meaning the
  address of its own opcode byte (R11, R34). -/
  pc : Word
  /-- The interrupt master enable (R38). -/
  ime : Bool
  /-- The hidden bit that delays `EI` (R39). -/
  eiPending : Bool
  /-- Running, Halted or Stopped (R40). -/
  mode : Mode
  /-- The bytes of FlatRAM, and IE and IF under the Game Boy instances (R41, R73, R507). -/
  mem : Memory
  /-- The state of the platform's own bus, under the instances `platform` (R45, R72). -/
  bus : BusState
  /-- The accesses made so far, oldest first, or none where nothing records (the model's own field, log 4). -/
  busLog : Option (List BusAccess)
  /-- The requests the platform holds under the instance `external`: the handler addresses of the sources that are
  both requested and enabled, the one to be served first at the head (R44 (b), R506). -/
  irqRequests : List Word
  /-- The inputs of the steps to come, the next step's first; none left means no event (the model's own field,
  log 6). -/
  inputs : List PlatformInput
  /-- The parameters in force (R8). -/
  config : Config
  deriving DecidableEq, Repr

/-- The model faults (R13): no next state, never a successful end of a run. -/
inductive Fault where
  /-- Raised by the meaning of an unlisted opcode byte (R417, R501), with the byte and its address. Safe: nothing
  can be proved of what follows. -/
  | illegalOpcode (op : Byte) (pc : Word)
  /-- Raised by `HALT` executed with IME = 0 while an enabled interrupt is already requested (R412, R503), with
  the address of the HALT. Safe: the hardware's behaviour there is given no value. -/
  | haltBug (pc : Word)
  deriving DecidableEq, Repr

/-- The refusals (R13): the hardware goes on, and the model says nothing of it. -/
inductive Refusal where
  /-- Raised by the meaning of the prefix byte 0xCB, whose instructions the source excludes (R416, R502), with the
  byte's address. Safe. -/
  | cbPrefix (pc : Word)
  /-- Raised by an arm of `exec` for an instruction that has no meaning yet; no arm raises it now. Safe. -/
  | notModelled (mnemonic : String)
  deriving DecidableEq, Repr

/-- What a meaning answers. -/
abbrev Result := Host.Outcome State Fault Refusal

/-- The machine right after reset (R46, R560 to R563). The spec fixes mode = Running, IME = 0, ei_pending = 0 and a
zero low nibble of F. PRESUMED, unsafe (log 1): every other register holds the value that R561 gives for the
original Game Boy when a cartridge is entered, IF = 0xE1 and IE = 0x00 among them (R507). Memory lists nothing else,
the platform holds nothing, and every parameter has its default. -/
def State.reset : State where
  a := 0x01
  f := 0xB0
  b := 0x00
  c := 0x13
  d := 0x00
  e := 0xD8
  h := 0x01
  l := 0x4D
  sp := 0xFFFE
  pc := 0x0100
  ime := false
  eiPending := false
  mode := .running
  mem := [(0xFF0F, 0xE1)]
  bus := []
  busLog := none
  irqRequests := []
  inputs := []
  config := Config.standard

end Sys2Proof.Machine
end

