-- ==== Sys2Proof/Machine/Operands.lean ====
section
/-! DEFINITION. The operand forms: 8-bit registers, pairs, signed immediates, the I/O page, conditions. -/

namespace Sys2Proof.Machine

/-- x[r] for an 8-bit general register (R11, R30). -/
def State.reg (s : State) : Reg8 → Byte
  | .b => s.b
  | .c => s.c
  | .d => s.d
  | .e => s.e
  | .h => s.h
  | .l => s.l
  | .a => s.a

/-- x[r] <- v for an 8-bit general register (R11, R30). -/
def State.setReg (s : State) (r : Reg8) (v : Byte) : State :=
  match r with
  | .b => { s with b := v }
  | .c => { s with c := v }
  | .d => { s with d := v }
  | .e => { s with e := v }
  | .h => { s with h := v }
  | .l => { s with l := v }
  | .a => { s with a := v }

/-- x[BC] = x[B]:x[C] (R32). -/
def State.bc (s : State) : Word := joinBytes s.b s.c

/-- x[DE] = x[D]:x[E] (R32). -/
def State.de (s : State) : Word := joinBytes s.d s.e

/-- x[HL] = x[H]:x[L] (R32). -/
def State.hl (s : State) : Word := joinBytes s.h s.l

/-- x[AF] = x[A]:x[F] (R32). -/
def State.af (s : State) : Word := joinBytes s.a s.f

/-- x[BC] <- v (R11, R32). -/
def State.setBc (s : State) (v : Word) : State := { s with b := highByte v, c := lowByte v }

/-- x[DE] <- v (R11, R32). -/
def State.setDe (s : State) (v : Word) : State := { s with d := highByte v, e := lowByte v }

/-- x[HL] <- v (R11, R32). -/
def State.setHl (s : State) (v : Word) : State := { s with h := highByte v, l := lowByte v }

/-- x[SP] <- v (R33). -/
def State.setSp (s : State) (v : Word) : State := { s with sp := v }

/-- x[F] <- v: every write of F stores `v & 0xF0` (R36). -/
def State.setF (s : State) (v : Byte) : State := { s with f := v &&& 0xF0 }

/-- x[AF] <- v: A takes the high byte, F the high nibble of the low byte (R36, R233). -/
def State.setAf (s : State) (v : Word) : State := ({ s with a := highByte v }).setF (lowByte v)

/-- x[rr] for the pair table rp[] (R106). -/
def State.pair (s : State) : Reg16 → Word
  | .bc => s.bc
  | .de => s.de
  | .hl => s.hl
  | .sp => s.sp

/-- x[rr] <- v for the pair table rp[] (R106). -/
def State.setPair (s : State) (r : Reg16) (v : Word) : State :=
  match r with
  | .bc => s.setBc v
  | .de => s.setDe v
  | .hl => s.setHl v
  | .sp => s.setSp v

/-- x[rr] for the pair table rp2[] of PUSH and POP (R106). -/
def State.stackPair (s : State) : StackReg → Word
  | .bc => s.bc
  | .de => s.de
  | .hl => s.hl
  | .af => s.af

/-- x[rr] <- v for the pair table rp2[] (R106). -/
def State.setStackPair (s : State) (r : StackReg) (v : Word) : State :=
  match r with
  | .bc => s.setBc v
  | .de => s.setDe v
  | .hl => s.setHl v
  | .af => s.setAf v

/-- flag.Z = F[7] (R36). -/
def State.flagZ (s : State) : Bool := s.f.getLsbD 7

/-- flag.N = F[6] (R36). -/
def State.flagN (s : State) : Bool := s.f.getLsbD 6

/-- flag.H = F[5] (R36). -/
def State.flagH (s : State) : Bool := s.f.getLsbD 5

/-- flag.C = F[4] (R36). -/
def State.flagC (s : State) : Bool := s.f.getLsbD 4

/-- F as a byte made of its four flags, low nibble 0 (R36). -/
def packFlags (z n h c : Bool) : Byte :=
  BitVec.ofBool z ++ BitVec.ofBool n ++ BitVec.ofBool h ++ BitVec.ofBool c ++ (0 : BitVec 4)

/-- flag.Z <- z; flag.N <- n; flag.H <- h; flag.C <- c (R11, R36). An instruction that leaves a flag as it is
passes that flag's old value. -/
def State.setFlags (s : State) (z n h c : Bool) : State := s.setF (packFlags z n h c)

/-- `sext_16`: v if v < 128, else v + 0xFF00 (R10, R111). -/
def sext16 (v : Byte) : Word := v.signExtend 16

/-- The address 0xFF00 + zext_16(offset) of the I/O page (R74, R112). -/
def ioAddress (offset : Byte) : Word := 0xFF00 + offset.setWidth 16

/-- Whether a condition holds (R107, R370). -/
def State.holds (s : State) : Cond → Bool
  | .nz => !s.flagZ
  | .z => s.flagZ
  | .nc => !s.flagC
  | .c => s.flagC

/-- The target of a relative jump whose opcode byte is at pc: pc + 2 + sext_16(e), modulo 2^16 (R371). -/
def relativeTarget (pc : Word) (e : Byte) : Word := pc + 2 + sext16 e

end Sys2Proof.Machine
end

