-- ==== Sys2Proof/Machine/Flags.lean ====
section
/-! DEFINITION. The arithmetic: results and flags, computed on unbounded integers and narrowed at the end (R10). -/

namespace Sys2Proof.Machine

/-- A result byte with the four flags that go with it. -/
structure AluResult where
  res : Byte
  z : Bool
  n : Bool
  h : Bool
  c : Bool
  deriving DecidableEq, Repr

/-- `ADD8(a, b, cin)` (R240). -/
def add8 (a b : Byte) (cin : Bool) : AluResult :=
  let sum := a.toNat + b.toNat + cin.toNat
  let res := BitVec.ofNat 8 sum
  { res := res, z := decide (res = 0), n := false,
    h := decide (a.toNat % 16 + b.toNat % 16 + cin.toNat > 0xF), c := decide (sum > 0xFF) }

/-- `SUB8(a, b, cin)` (R241): C is the borrow. -/
def sub8 (a b : Byte) (cin : Bool) : AluResult :=
  let diff : Int := (a.toNat : Int) - b.toNat - cin.toNat
  let res := BitVec.ofInt 8 diff
  { res := res, z := decide (res = 0), n := true,
    h := decide (((a.toNat % 16 : Nat) : Int) - (b.toNat % 16 : Nat) - cin.toNat < 0), c := decide (diff < 0) }

/-- AND of A and the operand: H is set (R242). -/
def and8 (a b : Byte) : AluResult :=
  { res := a &&& b, z := decide (a &&& b = 0), n := false, h := true, c := false }

/-- XOR of A and the operand (R242). -/
def xor8 (a b : Byte) : AluResult :=
  { res := a ^^^ b, z := decide (a ^^^ b = 0), n := false, h := false, c := false }

/-- OR of A and the operand (R242). -/
def or8 (a b : Byte) : AluResult :=
  { res := a ||| b, z := decide (a ||| b = 0), n := false, h := false, c := false }

/-- `INC8(v)`, with the old C flag kept (R243). -/
def inc8 (v : Byte) (c : Bool) : AluResult :=
  { res := v + 1, z := decide (v + 1 = 0), n := false, h := decide (v.toNat % 16 = 0xF), c := c }

/-- `DEC8(v)`, with the old C flag kept (R243). -/
def dec8 (v : Byte) (c : Bool) : AluResult :=
  { res := v - 1, z := decide (v - 1 = 0), n := true, h := decide (v.toNat % 16 = 0), c := c }

/-- `INC16(v)`: no flag (R345). -/
def inc16 (v : Word) : Word := v + 1

/-- `DEC16(v)`: no flag (R345). -/
def dec16 (v : Word) : Word := v - 1

/-- The result of `ADD16(a, b)` (R345). -/
def add16 (a b : Word) : Word := BitVec.ofNat 16 (a.toNat + b.toNat)

/-- H of `ADD16(a, b)`: the carry out of bit 11 (R345). -/
def add16H (a b : Word) : Bool := decide (a.toNat % 4096 + b.toNat % 4096 > 0xFFF)

/-- C of `ADD16(a, b)`: the carry out of bit 15 (R345). -/
def add16C (a b : Word) : Bool := decide (a.toNat + b.toNat > 0xFFFF)

/-- The result of `ADDSP(sp, e)` (R345). -/
def addSp (sp : Word) (e : Byte) : Word := sp + sext16 e

/-- H of `ADDSP(sp, e)`: the carry out of bit 3 of the unsigned addition of the low byte and e (R345). -/
def addSpH (sp : Word) (e : Byte) : Bool := decide (sp.toNat % 16 + e.toNat % 16 > 0xF)

/-- C of `ADDSP(sp, e)`: the carry out of bit 7 of that addition (R345). -/
def addSpC (sp : Word) (e : Byte) : Bool := decide (sp.toNat % 256 + e.toNat > 0xFF)

/-- RLCA's result: a[6:0]:a[7] (R360, R361). -/
def rotateLeft (a : Byte) : Byte := a.extractLsb' 0 7 ++ BitVec.ofBool (a.getLsbD 7)

/-- RRCA's result: a[0]:a[7:1] (R360, R362). -/
def rotateRight (a : Byte) : Byte := BitVec.ofBool (a.getLsbD 0) ++ a.extractLsb' 1 7

/-- RLA's result: a[6:0]:cin (R360, R363). -/
def rotateLeftThrough (a : Byte) (cin : Bool) : Byte := a.extractLsb' 0 7 ++ BitVec.ofBool cin

/-- RRA's result: cin:a[7:1] (R360, R364). -/
def rotateRightThrough (a : Byte) (cin : Bool) : Byte := BitVec.ofBool cin ++ a.extractLsb' 1 7

/-- DAA on A with the flags N, H and C (R365). Both tests of the N = 0 branch look at A before any adjustment. -/
def daa (a : Byte) (n h c : Bool) : AluResult :=
  let low : Byte := if h || (!n && decide (a.toNat % 16 > 9)) then 0x06 else 0
  let high : Bool := c || (!n && decide (a.toNat > 0x99))
  let adj : Byte := low ||| (if high then 0x60 else 0)
  let res := if n then a - adj else a + adj
  { res := res, z := decide (res = 0), n := n, h := false, c := high }

end Sys2Proof.Machine
end

