-- ==== Sys2Proof/Machine/Ops.lean ====
section
/-! DEFINITION. The operations over memory, the bus, the stack, the interrupt interface and trap entry. -/

namespace Sys2Proof.Machine

/-! ### Memory -/

/-- The byte at an address; an address that is not listed reads as `Config.unlistedByte` (R71, R73). -/
def Memory.read : Memory → Nat → Byte
  | [], _ => Config.unlistedByte
  | (k, w) :: t, a => if k = a then w else Memory.read t a

/-- The memory with nothing listed at an address. -/
def Memory.erase : Memory → Nat → Memory
  | [], _ => []
  | (k, w) :: t, a => if k = a then Memory.erase t a else (k, w) :: Memory.erase t a

/-- The memory with a byte listed at its place in the rising order. -/
def Memory.insert : Memory → Nat → Byte → Memory
  | [], a, v => [(a, v)]
  | (k, w) :: t, a, v =>
    if k < a then (k, w) :: Memory.insert t a v
    else if k = a then (a, v) :: t
    else (a, v) :: (k, w) :: t

/-- Replace the byte at an address and nothing else (R73), keeping the canonical form: a byte equal to what an
unlisted address reads as is not listed. -/
def Memory.write (m : Memory) (a : Nat) (v : Byte) : Memory :=
  if v = Config.unlistedByte then Memory.erase m a else Memory.insert m a v

/-- The addresses are at least `lo`, strictly rising and below 2^16, and no entry equals what an unlisted address
reads as. -/
def Memory.wfFrom : Nat → Memory → Bool
  | _, [] => true
  | lo, (k, w) :: t =>
    decide (lo ≤ k) && decide (k < 65536) && decide (w ≠ Config.unlistedByte) && Memory.wfFrom (k + 1) t

/-- The canonical form of memory (R71, R73): equal memories are equal lists. -/
def Memory.wf (m : Memory) : Bool := Memory.wfFrom 0 m

/-! ### The bus -/

/-- The address of IE, the interrupt enable register of the Game Boy instance (R507). -/
def ieAddress : Word := 0xFFFF

/-- The address of IF, the interrupt flag register of the Game Boy instance (R507). -/
def ifAddress : Word := 0xFF0F

/-- Whether a location's bits 7 to 5 read as 1 and ignore writes: IF under the instance `gameBoy` (R507). -/
def State.highBitsFixed (s : State) (a : Word) : Bool :=
  match s.config.irq with
  | .gameBoy => a == ifAddress
  | .noInterrupts | .external | .gameBoyFlat | .platform => false

/-- Whether a location is IE or IF of the Game Boy instances, which no bus but the interface itself answers (R507). -/
def State.isIrqRegister (s : State) (a : Word) : Bool :=
  match s.config.irq with
  | .gameBoy => a == ieAddress || a == ifAddress
  | .gameBoyFlat => a == ieAddress || a == ifAddress
  | .noInterrupts | .external | .platform => false

/-- Whether an access to a location goes to the platform's own bus (R72). -/
def State.onPlatform (s : State) (a : Word) : Bool :=
  match s.config.bus with
  | .flatRam => false
  | .platform => !s.isIrqRegister a

/-- The byte that a read of a location would give now, without the access (R72, R73). -/
def State.peek (s : State) (a : Word) : Byte :=
  if s.onPlatform a then (Config.busRead s.bus a).1
  else if s.highBitsFixed a then s.mem.read a.toNat ||| 0xE0
  else s.mem.read a.toNat

/-- The byte that a location holds once v has been written to it: v itself on FlatRAM (R73), bits 7 to 5 set for
IF under the instance `gameBoy` (R507). -/
def State.latched (s : State) (a : Word) (v : Byte) : Byte :=
  if s.highBitsFixed a then v ||| 0xE0 else v

/-- Replace the byte of one location of `mem`, without an access. -/
def State.poke (s : State) (a : Word) (v : Byte) : State :=
  { s with mem := s.mem.write a.toNat (if s.highBitsFixed a then v &&& 0x1F else v) }

/-- Add an access to the record, where there is one (log 4). -/
def State.record (s : State) (x : BusAccess) : State :=
  { s with busLog := s.busLog.map (fun l => l ++ [x]) }

/-- `MemRead(a, 1)`: the byte, and the state after the access, which a read of the platform's bus may change (R12,
R72). -/
def State.memRead (s : State) (a : Word) : Byte × State :=
  (s.peek a,
    { s with bus := if s.onPlatform a then (Config.busRead s.bus a).2 else s.bus }.record (.read a (s.peek a)))

/-- `MemWrite(a, 1, v)`: what the platform's bus makes of it, or the byte replaced (R12, R72, R73). -/
def State.memWrite (s : State) (a : Word) (v : Byte) : State :=
  { s with
    mem := if s.onPlatform a then s.mem else (s.poke a v).mem
    bus := if s.onPlatform a then Config.busWrite s.bus a v else s.bus }.record (.write a v)

/-! ### The program counter and the stack -/

/-- pc <- pc + n, modulo 2^16 (R34, R81). -/
def State.advance (s : State) (n : Word) : State := { s with pc := s.pc + n }

/-- pc <- target (R371). -/
def State.jump (s : State) (target : Word) : State := { s with pc := target }

/-- `PUSH16(v)`: the high byte at SP - 1, then the low byte at SP - 2; SP ends 2 lower (R221). -/
def State.push16 (s : State) (v : Word) : State :=
  let s₁ := s.setSp (s.sp - 1)
  let s₂ := s₁.memWrite s₁.sp (highByte v)
  let s₃ := s₂.setSp (s₂.sp - 1)
  s₃.memWrite s₃.sp (lowByte v)

/-- `POP16()`: the low byte from SP, then the high byte from SP + 1; SP ends 2 higher (R221). -/
def State.pop16 (s : State) : Word × State :=
  let r := s.memRead s.sp
  let s₁ := r.2.setSp (r.2.sp + 1)
  let q := s₁.memRead s₁.sp
  (joinBytes q.1 r.1, q.2.setSp (q.2.sp + 1))

/-! ### The platform's interrupt interface -/

/-- IE and IF and 0x1F: the sources of the Game Boy instance that are requested and enabled (R507). -/
def State.pendingSources (s : State) : Byte :=
  s.mem.read ieAddress.toNat &&& s.mem.read ifAddress.toNat &&& 0x1F

/-- The lowest-numbered bit set among bits 0 to 4 (R507, R509). -/
def lowestSource (p : Byte) : Option Nat := [0, 1, 2, 3, 4].find? (fun i => p.getLsbD i)

/-- The handler address of a source of the Game Boy instance: 0x0040 + 8 i (R507, R508). -/
def sourceVector (i : Nat) : Word := 0x0040 + BitVec.ofNat 16 (8 * i)

/-- The platform's acknowledge: bit i of IF is cleared. It is no bus access of the CPU (R507, R511). -/
def State.acknowledge (s : State) (i : Nat) : State :=
  { s with mem := s.mem.write ifAddress.toNat (s.mem.read ifAddress.toNat &&& ~~~(1#8 <<< i)) }

/-- `IrqSelect()` where `IrqRequested()` holds, none where it does not: the handler address of the source to be
served, and the state in which its request alone is acknowledged (R506, R507, R509). -/
def State.irqSelect (s : State) : Option (Word × State) :=
  match s.config.irq with
  | .noInterrupts => none
  | .external =>
    match s.irqRequests with
    | [] => none
    | v :: rest => some (v, { s with irqRequests := rest })
  | .gameBoy => (lowestSource s.pendingSources).map (fun i => (sourceVector i, s.acknowledge i))
  | .gameBoyFlat => (lowestSource s.pendingSources).map (fun i => (sourceVector i, s.acknowledge i))
  | .platform => (Config.irqOffer s.bus).map (fun x => (x.1, { s with bus := x.2 }))

/-- `IrqRequested()`: some source is both requested and enabled, whatever IME is (R506, R507). -/
def State.irqRequested (s : State) : Bool :=
  match s.config.irq with
  | .noInterrupts => false
  | .external => !s.irqRequests.isEmpty
  | .gameBoy => decide (s.pendingSources ≠ 0)
  | .gameBoyFlat => decide (s.pendingSources ≠ 0)
  | .platform => (Config.irqOffer s.bus).isSome

/-- What an input does to the platform's state (R506 to R508): under `external` it may replace the requests, under
the Game Boy instances the events set bits of IF, under `NoInterrupts` nothing is ever requested, and under `platform`
the requests are in the state of the bus. -/
def State.applyInput (s : State) (i : PlatformInput) : State :=
  match s.config.irq with
  | .noInterrupts => s
  | .platform => s
  | .external => { s with irqRequests := i.requests.getD s.irqRequests }
  | .gameBoy =>
    { s with mem := s.mem.write ifAddress.toNat (s.mem.read ifAddress.toNat ||| i.events.setWidth 8) }
  | .gameBoyFlat =>
    { s with mem := s.mem.write ifAddress.toNat (s.mem.read ifAddress.toNat ||| i.events.setWidth 8) }

/-- Take the next input off the list: whether `ButtonPress` occurs at this step, and the state after the platform has
moved, its own bus included (R90, R506, R516; log 6). -/
def State.takeInput (s : State) : Bool × State :=
  match s.inputs with
  | [] => (false, s)
  | i :: rest => (i.buttonPress, ({ s with inputs := rest, bus := i.bus.getD s.bus }).applyInput i)

/-! ### Taking an interrupt, and returning from one -/

/-- Trap entry, after `IrqSelect` has chosen the vector and acknowledged (R511): IME and ei_pending are cleared, pc
is pushed, pc becomes the vector, the mode becomes Running. Nothing else is saved. -/
def State.trapEntry (s : State) (vector : Word) : State :=
  let s₁ := ({ s with ime := false, eiPending := false }).push16 s.pc
  { s₁ with pc := vector, mode := .running }

/-- Trap return by opcode 0xD9 under `D9_MEANING = reti`: pc <- POP16(), IME <- 1 at once (R414, R513). Under the
default a handler returns with `EI` then `RET`. -/
def State.trapReturn (s : State) : State :=
  let r := s.pop16
  { r.2 with pc := r.1, ime := true }

/-- The delayed enable: a set ei_pending sets IME and is cleared (R39, R510 stage 4). -/
def State.delayedEnable (s : State) : State :=
  if s.eiPending then { s with ime := true, eiPending := false } else s

end Sys2Proof.Machine
end

