-- ==== Sys2Proof/Machine/Arith16.lean ====
section
/-! DEFINITION. 16-bit arithmetic (R345 to R358). -/

namespace Sys2Proof.Machine

/-- ADD16 into HL; Z is kept (R345). -/
def addHl (s : State) (v : Word) : Result :=
  .next (((s.setHl (add16 s.hl v)).setFlags s.flagZ false (add16H s.hl v) (add16C s.hl v)).advance 1)

/-- `INC BC` (0x03, R346): INC16 of BC, no flag. -/
def execIncBc (s : State) : Result := .next ((s.setPair .bc (inc16 (s.pair .bc))).advance 1)

/-- `ADD HL, BC` (0x09, R350): ADD16 of HL and BC. -/
def execAddHlBc (s : State) : Result := addHl s (s.pair .bc)

/-- `DEC BC` (0x0B, R354): DEC16 of BC, no flag. -/
def execDecBc (s : State) : Result := .next ((s.setPair .bc (dec16 (s.pair .bc))).advance 1)

/-- `INC DE` (0x13, R347): INC16 of DE, no flag. -/
def execIncDe (s : State) : Result := .next ((s.setPair .de (inc16 (s.pair .de))).advance 1)

/-- `ADD HL, DE` (0x19, R351): ADD16 of HL and DE. -/
def execAddHlDe (s : State) : Result := addHl s (s.pair .de)

/-- `DEC DE` (0x1B, R355): DEC16 of DE, no flag. -/
def execDecDe (s : State) : Result := .next ((s.setPair .de (dec16 (s.pair .de))).advance 1)

/-- `INC HL` (0x23, R348): INC16 of HL, no flag. -/
def execIncHl (s : State) : Result := .next ((s.setPair .hl (inc16 (s.pair .hl))).advance 1)

/-- `ADD HL, HL` (0x29, R352): ADD16 of HL and HL. -/
def execAddHlHl (s : State) : Result := addHl s (s.pair .hl)

/-- `DEC HL` (0x2B, R356): DEC16 of HL, no flag. -/
def execDecHl (s : State) : Result := .next ((s.setPair .hl (dec16 (s.pair .hl))).advance 1)

/-- `INC SP` (0x33, R349): INC16 of SP, no flag. -/
def execIncSp (s : State) : Result := .next ((s.setPair .sp (inc16 (s.pair .sp))).advance 1)

/-- `ADD HL, SP` (0x39, R353): ADD16 of HL and SP. -/
def execAddHlSp (s : State) : Result := addHl s (s.pair .sp)

/-- `DEC SP` (0x3B, R357): DEC16 of SP, no flag. -/
def execDecSp (s : State) : Result := .next ((s.setPair .sp (dec16 (s.pair .sp))).advance 1)

/-- `ADD SP, r8` (0xE8, R358): ADDSP of SP and r8. -/
def execAddSpR8 (r8 : Byte) (s : State) : Result :=
  .next (((s.setSp (addSp s.sp r8)).setFlags false false (addSpH s.sp r8) (addSpC s.sp r8)).advance 2)

end Sys2Proof.Machine
end

