-- ==== Sys2Proof/Machine/Arith8.lean ====
section
/-! DEFINITION. 8-bit arithmetic (R240 to R301). -/

namespace Sys2Proof.Machine

/-- A takes the result and F its four flags (R240 to R242). -/
def setAcc (s : State) (r : AluResult) (len : Word) : Result :=
  .next (((s.setReg .a r.res).setFlags r.z r.n r.h r.c).advance len)

/-- F takes the four flags; the result is discarded (R241, CP). -/
def setFlagsOnly (s : State) (r : AluResult) (len : Word) : Result :=
  .next ((s.setFlags r.z r.n r.h r.c).advance len)

/-- INC of a register; C is kept (R243). -/
def incReg (s : State) (r : Reg8) : Result :=
  let v := inc8 (s.reg r) s.flagC
  .next (((s.setReg r v.res).setFlags v.z v.n v.h v.c).advance 1)

/-- DEC of a register; C is kept (R243). -/
def decReg (s : State) (r : Reg8) : Result :=
  let v := dec8 (s.reg r) s.flagC
  .next (((s.setReg r v.res).setFlags v.z v.n v.h v.c).advance 1)

/-- INC of the byte at HL: read, then write the same address (R244, R262). -/
def incMem (s : State) : Result :=
  let p := s.memRead s.hl
  let v := inc8 p.1 s.flagC
  .next (((p.2.memWrite s.hl v.res).setFlags v.z v.n v.h v.c).advance 1)

/-- DEC of the byte at HL: read, then write the same address (R244, R263). -/
def decMem (s : State) : Result :=
  let p := s.memRead s.hl
  let v := dec8 p.1 s.flagC
  .next (((p.2.memWrite s.hl v.res).setFlags v.z v.n v.h v.c).advance 1)

/-- `INC B` (0x04, R250): INC8 of B. -/
def execIncB (s : State) : Result := incReg s .b

/-- `DEC B` (0x05, R251): DEC8 of B. -/
def execDecB (s : State) : Result := decReg s .b

/-- `INC C` (0x0C, R252): INC8 of C. -/
def execIncC (s : State) : Result := incReg s .c

/-- `DEC C` (0x0D, R253): DEC8 of C. -/
def execDecC (s : State) : Result := decReg s .c

/-- `INC D` (0x14, R254): INC8 of D. -/
def execIncD (s : State) : Result := incReg s .d

/-- `DEC D` (0x15, R255): DEC8 of D. -/
def execDecD (s : State) : Result := decReg s .d

/-- `INC E` (0x1C, R256): INC8 of E. -/
def execIncE (s : State) : Result := incReg s .e

/-- `DEC E` (0x1D, R257): DEC8 of E. -/
def execDecE (s : State) : Result := decReg s .e

/-- `INC H` (0x24, R258): INC8 of H. -/
def execIncH (s : State) : Result := incReg s .h

/-- `DEC H` (0x25, R259): DEC8 of H. -/
def execDecH (s : State) : Result := decReg s .h

/-- `INC L` (0x2C, R260): INC8 of L. -/
def execIncL (s : State) : Result := incReg s .l

/-- `DEC L` (0x2D, R261): DEC8 of L. -/
def execDecL (s : State) : Result := decReg s .l

/-- `INC (HL)` (0x34, R262): INC8 of the byte at HL: one read, then one write. -/
def execIncAtHl (s : State) : Result := incMem s

/-- `DEC (HL)` (0x35, R263): DEC8 of the byte at HL: one read, then one write. -/
def execDecAtHl (s : State) : Result := decMem s

/-- `INC A` (0x3C, R264): INC8 of A. -/
def execIncA (s : State) : Result := incReg s .a

/-- `DEC A` (0x3D, R265): DEC8 of A. -/
def execDecA (s : State) : Result := decReg s .a

/-- `ADD A, B` (0x80, R266): ADD8, carry in 0, of A and B. -/
def execAddAB (s : State) : Result := setAcc s (add8 s.a (s.reg .b) false) 1

/-- `ADD A, C` (0x81, R267): ADD8, carry in 0, of A and C. -/
def execAddAC (s : State) : Result := setAcc s (add8 s.a (s.reg .c) false) 1

/-- `ADD A, D` (0x82, R268): ADD8, carry in 0, of A and D. -/
def execAddAD (s : State) : Result := setAcc s (add8 s.a (s.reg .d) false) 1

/-- `ADD A, E` (0x83, R269): ADD8, carry in 0, of A and E. -/
def execAddAE (s : State) : Result := setAcc s (add8 s.a (s.reg .e) false) 1

/-- `ADD A, H` (0x84, R270): ADD8, carry in 0, of A and H. -/
def execAddAH (s : State) : Result := setAcc s (add8 s.a (s.reg .h) false) 1

/-- `ADD A, L` (0x85, R271): ADD8, carry in 0, of A and L. -/
def execAddAL (s : State) : Result := setAcc s (add8 s.a (s.reg .l) false) 1

/-- `ADD A, (HL)` (0x86, R272): ADD8, carry in 0, of A and the byte at HL. -/
def execAddAAtHl (s : State) : Result := setAcc (s.memRead s.hl).2 (add8 s.a (s.memRead s.hl).1 false) 1

/-- `ADD A, A` (0x87, R273): ADD8, carry in 0, of A and A. -/
def execAddAA (s : State) : Result := setAcc s (add8 s.a (s.reg .a) false) 1

/-- `ADC A, B` (0x88, R274): ADD8, carry in C, of A and B. -/
def execAdcAB (s : State) : Result := setAcc s (add8 s.a (s.reg .b) s.flagC) 1

/-- `ADC A, C` (0x89, R275): ADD8, carry in C, of A and C. -/
def execAdcAC (s : State) : Result := setAcc s (add8 s.a (s.reg .c) s.flagC) 1

/-- `ADC A, D` (0x8A, R276): ADD8, carry in C, of A and D. -/
def execAdcAD (s : State) : Result := setAcc s (add8 s.a (s.reg .d) s.flagC) 1

/-- `ADC A, E` (0x8B, R277): ADD8, carry in C, of A and E. -/
def execAdcAE (s : State) : Result := setAcc s (add8 s.a (s.reg .e) s.flagC) 1

/-- `ADC A, H` (0x8C, R278): ADD8, carry in C, of A and H. -/
def execAdcAH (s : State) : Result := setAcc s (add8 s.a (s.reg .h) s.flagC) 1

/-- `ADC A, L` (0x8D, R279): ADD8, carry in C, of A and L. -/
def execAdcAL (s : State) : Result := setAcc s (add8 s.a (s.reg .l) s.flagC) 1

/-- `ADC A, (HL)` (0x8E, R280): ADD8, carry in C, of A and the byte at HL. -/
def execAdcAAtHl (s : State) : Result := setAcc (s.memRead s.hl).2 (add8 s.a (s.memRead s.hl).1 s.flagC) 1

/-- `ADC A, A` (0x8F, R281): ADD8, carry in C, of A and A. -/
def execAdcAA (s : State) : Result := setAcc s (add8 s.a (s.reg .a) s.flagC) 1

/-- `SUB B` (0x90, R282): SUB8, borrow in 0, of A and B. -/
def execSubB (s : State) : Result := setAcc s (sub8 s.a (s.reg .b) false) 1

/-- `SUB C` (0x91, R283): SUB8, borrow in 0, of A and C. -/
def execSubC (s : State) : Result := setAcc s (sub8 s.a (s.reg .c) false) 1

/-- `SUB D` (0x92, R284): SUB8, borrow in 0, of A and D. -/
def execSubD (s : State) : Result := setAcc s (sub8 s.a (s.reg .d) false) 1

/-- `SUB E` (0x93, R285): SUB8, borrow in 0, of A and E. -/
def execSubE (s : State) : Result := setAcc s (sub8 s.a (s.reg .e) false) 1

/-- `SUB H` (0x94, R286): SUB8, borrow in 0, of A and H. -/
def execSubH (s : State) : Result := setAcc s (sub8 s.a (s.reg .h) false) 1

/-- `SUB L` (0x95, R287): SUB8, borrow in 0, of A and L. -/
def execSubL (s : State) : Result := setAcc s (sub8 s.a (s.reg .l) false) 1

/-- `SUB (HL)` (0x96, R288): SUB8, borrow in 0, of A and the byte at HL. -/
def execSubAtHl (s : State) : Result := setAcc (s.memRead s.hl).2 (sub8 s.a (s.memRead s.hl).1 false) 1

/-- `SUB A` (0x97, R289): SUB8, borrow in 0, of A and A. -/
def execSubA (s : State) : Result := setAcc s (sub8 s.a (s.reg .a) false) 1

/-- `SBC A, B` (0x98, R290): SUB8, borrow in C, of A and B. -/
def execSbcAB (s : State) : Result := setAcc s (sub8 s.a (s.reg .b) s.flagC) 1

/-- `SBC A, C` (0x99, R291): SUB8, borrow in C, of A and C. -/
def execSbcAC (s : State) : Result := setAcc s (sub8 s.a (s.reg .c) s.flagC) 1

/-- `SBC A, D` (0x9A, R292): SUB8, borrow in C, of A and D. -/
def execSbcAD (s : State) : Result := setAcc s (sub8 s.a (s.reg .d) s.flagC) 1

/-- `SBC A, E` (0x9B, R293): SUB8, borrow in C, of A and E. -/
def execSbcAE (s : State) : Result := setAcc s (sub8 s.a (s.reg .e) s.flagC) 1

/-- `SBC A, H` (0x9C, R294): SUB8, borrow in C, of A and H. -/
def execSbcAH (s : State) : Result := setAcc s (sub8 s.a (s.reg .h) s.flagC) 1

/-- `SBC A, L` (0x9D, R295): SUB8, borrow in C, of A and L. -/
def execSbcAL (s : State) : Result := setAcc s (sub8 s.a (s.reg .l) s.flagC) 1

/-- `SBC A, (HL)` (0x9E, R296): SUB8, borrow in C, of A and the byte at HL. -/
def execSbcAAtHl (s : State) : Result := setAcc (s.memRead s.hl).2 (sub8 s.a (s.memRead s.hl).1 s.flagC) 1

/-- `SBC A, A` (0x9F, R297): SUB8, borrow in C, of A and A. -/
def execSbcAA (s : State) : Result := setAcc s (sub8 s.a (s.reg .a) s.flagC) 1

/-- `ADD A, d8` (0xC6, R298): ADD8, carry in 0, of A and d8. -/
def execAddAD8 (d8 : Byte) (s : State) : Result := setAcc s (add8 s.a d8 false) 2

/-- `ADC A, d8` (0xCE, R299): ADD8, carry in C, of A and d8. -/
def execAdcAD8 (d8 : Byte) (s : State) : Result := setAcc s (add8 s.a d8 s.flagC) 2

/-- `SUB d8` (0xD6, R300): SUB8, borrow in 0, of A and d8. -/
def execSubD8 (d8 : Byte) (s : State) : Result := setAcc s (sub8 s.a d8 false) 2

/-- `SBC A, d8` (0xDE, R301): SUB8, borrow in C, of A and d8. -/
def execSbcAD8 (d8 : Byte) (s : State) : Result := setAcc s (sub8 s.a d8 s.flagC) 2

end Sys2Proof.Machine
end

