-- ==== Sys2Proof/Machine/Control.lean ====
section
/-! DEFINITION. Jumps, calls, returns and restarts (R370 to R400). -/

namespace Sys2Proof.Machine

/-- Go to the target if the condition holds, else to the next instruction (R370, R371). -/
def branch (s : State) (cc : Cond) (target : Word) (len : Word) : Result :=
  .next (if s.holds cc then s.jump target else s.advance len)

/-- Push the address of the next instruction and go to the target (R371). -/
def call (s : State) (target : Word) (len : Word) : Result :=
  .next ((s.push16 (s.pc + len)).jump target)

/-- CALL on a condition; when it does not hold the stack is not touched (R370). -/
def callIf (s : State) (cc : Cond) (target : Word) : Result :=
  if s.holds cc then call s target 3 else .next (s.advance 3)

/-- pc <- POP16() (R371). -/
def ret (s : State) : Result :=
  let p := s.pop16
  .next (p.2.jump p.1)

/-- RET on a condition; when it does not hold the stack is not read (R370). -/
def retIf (s : State) (cc : Cond) : Result :=
  if s.holds cc then ret s else .next (s.advance 1)

/-- `JR r8` (0x18, R372): pc <- pc + 2 + sext_16(r8). -/
def execJrR8 (r8 : Byte) (s : State) : Result := .next (s.jump (relativeTarget s.pc r8))

/-- `JR NZ, r8` (0x20, R373): if NZ then pc <- pc + 2 + sext_16(r8) else pc <- pc + 2. -/
def execJrNzR8 (r8 : Byte) (s : State) : Result := branch s .nz (relativeTarget s.pc r8) 2

/-- `JR Z, r8` (0x28, R374): if Z then pc <- pc + 2 + sext_16(r8) else pc <- pc + 2. -/
def execJrZR8 (r8 : Byte) (s : State) : Result := branch s .z (relativeTarget s.pc r8) 2

/-- `JR NC, r8` (0x30, R375): if NC then pc <- pc + 2 + sext_16(r8) else pc <- pc + 2. -/
def execJrNcR8 (r8 : Byte) (s : State) : Result := branch s .nc (relativeTarget s.pc r8) 2

/-- `JR C, r8` (0x38, R376): if C then pc <- pc + 2 + sext_16(r8) else pc <- pc + 2. -/
def execJrCR8 (r8 : Byte) (s : State) : Result := branch s .c (relativeTarget s.pc r8) 2

/-- `RET NZ` (0xC0, R377): if NZ then pc <- POP16() else pc <- pc + 1. -/
def execRetNz (s : State) : Result := retIf s .nz

/-- `JP NZ, a16` (0xC2, R382): if NZ then pc <- a16 else pc <- pc + 3. -/
def execJpNzA16 (a16 : Word) (s : State) : Result := branch s .nz a16 3

/-- `JP a16` (0xC3, R383): pc <- a16. -/
def execJpA16 (a16 : Word) (s : State) : Result := .next (s.jump a16)

/-- `CALL NZ, a16` (0xC4, R388): if NZ then PUSH16(pc + 3) and pc <- a16, else pc <- pc + 3. -/
def execCallNzA16 (a16 : Word) (s : State) : Result := callIf s .nz a16

/-- `RST 00H` (0xC7, R393): PUSH16(pc + 1); pc <- 0x0000. -/
def execRst00 (s : State) : Result := call s 0x0000 1

/-- `RET Z` (0xC8, R378): if Z then pc <- POP16() else pc <- pc + 1. -/
def execRetZ (s : State) : Result := retIf s .z

/-- `RET` (0xC9, R379): pc <- POP16(). -/
def execRet (s : State) : Result := ret s

/-- `JP Z, a16` (0xCA, R384): if Z then pc <- a16 else pc <- pc + 3. -/
def execJpZA16 (a16 : Word) (s : State) : Result := branch s .z a16 3

/-- `CALL Z, a16` (0xCC, R389): if Z then PUSH16(pc + 3) and pc <- a16, else pc <- pc + 3. -/
def execCallZA16 (a16 : Word) (s : State) : Result := callIf s .z a16

/-- `CALL a16` (0xCD, R390): PUSH16(pc + 3); pc <- a16. -/
def execCallA16 (a16 : Word) (s : State) : Result := call s a16 3

/-- `RST 08H` (0xCF, R394): PUSH16(pc + 1); pc <- 0x0008. -/
def execRst08 (s : State) : Result := call s 0x0008 1

/-- `RET NC` (0xD0, R380): if NC then pc <- POP16() else pc <- pc + 1. -/
def execRetNc (s : State) : Result := retIf s .nc

/-- `JP NC, a16` (0xD2, R385): if NC then pc <- a16 else pc <- pc + 3. -/
def execJpNcA16 (a16 : Word) (s : State) : Result := branch s .nc a16 3

/-- `CALL NC, a16` (0xD4, R391): if NC then PUSH16(pc + 3) and pc <- a16, else pc <- pc + 3. -/
def execCallNcA16 (a16 : Word) (s : State) : Result := callIf s .nc a16

/-- `RST 10H` (0xD7, R395): PUSH16(pc + 1); pc <- 0x0010. -/
def execRst10 (s : State) : Result := call s 0x0010 1

/-- `RET C` (0xD8, R381): if C then pc <- POP16() else pc <- pc + 1. -/
def execRetC (s : State) : Result := retIf s .c

/-- `JP C, a16` (0xDA, R386): if C then pc <- a16 else pc <- pc + 3. -/
def execJpCA16 (a16 : Word) (s : State) : Result := branch s .c a16 3

/-- `CALL C, a16` (0xDC, R392): if C then PUSH16(pc + 3) and pc <- a16, else pc <- pc + 3. -/
def execCallCA16 (a16 : Word) (s : State) : Result := callIf s .c a16

/-- `RST 18H` (0xDF, R396): PUSH16(pc + 1); pc <- 0x0018. -/
def execRst18 (s : State) : Result := call s 0x0018 1

/-- `RST 20H` (0xE7, R397): PUSH16(pc + 1); pc <- 0x0020. -/
def execRst20 (s : State) : Result := call s 0x0020 1

/-- `JP HL` (0xE9, R387): pc <- x[HL]; memory is not read. -/
def execJpHl (s : State) : Result := .next (s.jump s.hl)

/-- `RST 28H` (0xEF, R398): PUSH16(pc + 1); pc <- 0x0028. -/
def execRst28 (s : State) : Result := call s 0x0028 1

/-- `RST 30H` (0xF7, R399): PUSH16(pc + 1); pc <- 0x0030. -/
def execRst30 (s : State) : Result := call s 0x0030 1

/-- `RST 38H` (0xFF, R400): PUSH16(pc + 1); pc <- 0x0038. -/
def execRst38 (s : State) : Result := call s 0x0038 1

end Sys2Proof.Machine
end

