-- ==== Sys2Proof/Machine/CpuControl.lean ====
section
/-! DEFINITION. CPU control, the CB prefix and the unlisted bytes (R410 to R417). -/

namespace Sys2Proof.Machine

/-- IME <- 0; ei_pending <- 0; pc <- pc + 1 (R413). -/
def disableInterrupts (s : State) : Result :=
  .next ({ s with ime := false, eiPending := false }.advance 1)

/-- `NOP` (0x00, R410): pc <- pc + 1. -/
def execNop (s : State) : Result := .next (s.advance 1)

/-- `STOP` (0x10, R411): mode <- Stopped; pc <- pc + STOP_LENGTH. With the length 2 the byte at
pc + 1 is fetched and discarded. -/
def execStop (s : State) : Result :=
  match s.config.stopLength with
  | .one => .next ({ s with mode := .stopped }.advance 1)
  | .two => .next ({ (s.memRead (s.pc + 1)).2 with mode := .stopped }.advance 2)

/-- `HALT` (0x76, R412): the fault HaltBug if IME = 0 and a request is there, else mode <- Halted; pc <- pc + 1. -/
def execHalt (s : State) : Result :=
  if !s.ime && s.irqRequested then .fault (.haltBug s.pc)
  else .next ({ s with mode := .halted }.advance 1)

/-- `DI` (0xD9, R414): by `D9_MEANING`: as `DI`, or pc <- POP16() and IME <- 1. -/
def execDiD9 (s : State) : Result :=
  match s.config.d9Meaning with
  | .di => disableInterrupts s
  | .reti => .next s.trapReturn

/-- `DI` (0xF3, R413): IME <- 0; ei_pending <- 0, at once. -/
def execDiF3 (s : State) : Result := disableInterrupts s

/-- `EI` (0xFB, R415): ei_pending <- 1. -/
def execEi (s : State) : Result := .next ({ s with eiPending := true }.advance 1)

/-- `(CB prefix)` (0xCB, R416): the prefix of the excluded instructions: refused. -/
def execCbPrefix (s : State) : Result := .refused (.cbPrefix s.pc)

/-- `(unlisted 0xD3)` (0xD3, R417): no instruction: the fault IllegalOpcode. -/
def execUnlistedD3 (s : State) : Result := .fault (.illegalOpcode 0xD3 s.pc)

/-- `(unlisted 0xDB)` (0xDB, R417): no instruction: the fault IllegalOpcode. -/
def execUnlistedDB (s : State) : Result := .fault (.illegalOpcode 0xDB s.pc)

/-- `(unlisted 0xDD)` (0xDD, R417): no instruction: the fault IllegalOpcode. -/
def execUnlistedDD (s : State) : Result := .fault (.illegalOpcode 0xDD s.pc)

/-- `(unlisted 0xE3)` (0xE3, R417): no instruction: the fault IllegalOpcode. -/
def execUnlistedE3 (s : State) : Result := .fault (.illegalOpcode 0xE3 s.pc)

/-- `(unlisted 0xE4)` (0xE4, R417): no instruction: the fault IllegalOpcode. -/
def execUnlistedE4 (s : State) : Result := .fault (.illegalOpcode 0xE4 s.pc)

/-- `(unlisted 0xEB)` (0xEB, R417): no instruction: the fault IllegalOpcode. -/
def execUnlistedEB (s : State) : Result := .fault (.illegalOpcode 0xEB s.pc)

/-- `(unlisted 0xEC)` (0xEC, R417): no instruction: the fault IllegalOpcode. -/
def execUnlistedEC (s : State) : Result := .fault (.illegalOpcode 0xEC s.pc)

/-- `(unlisted 0xED)` (0xED, R417): no instruction: the fault IllegalOpcode. -/
def execUnlistedED (s : State) : Result := .fault (.illegalOpcode 0xED s.pc)

/-- `(unlisted 0xF4)` (0xF4, R417): no instruction: the fault IllegalOpcode. -/
def execUnlistedF4 (s : State) : Result := .fault (.illegalOpcode 0xF4 s.pc)

/-- `(unlisted 0xFC)` (0xFC, R417): no instruction: the fault IllegalOpcode. -/
def execUnlistedFC (s : State) : Result := .fault (.illegalOpcode 0xFC s.pc)

/-- `(unlisted 0xFD)` (0xFD, R417): no instruction: the fault IllegalOpcode. -/
def execUnlistedFD (s : State) : Result := .fault (.illegalOpcode 0xFD s.pc)

end Sys2Proof.Machine
end

