-- ==== Sys2Proof/Machine/Load16.lean ====
section
/-! DEFINITION. 16-bit loads and the stack (R220 to R236). -/

namespace Sys2Proof.Machine

/-- POP into a pair (R221, R227 to R233). -/
def popPair (s : State) (r : StackReg) : Result :=
  let p := s.pop16
  .next ((p.2.setStackPair r p.1).advance 1)

/-- PUSH of a pair (R221, R228 to R234). -/
def pushPair (s : State) (r : StackReg) : Result :=
  .next ((s.push16 (s.stackPair r)).advance 1)

/-- `LD BC, d16` (0x01, R222): x[BC] <- d16. -/
def execLdBcD16 (d16 : Word) (s : State) : Result := .next ((s.setPair .bc d16).advance 3)

/-- `LD (a16), SP` (0x08, R226): the low byte of SP to a16, then its high byte to a16 + 1. -/
def execLdAtA16Sp (a16 : Word) (s : State) : Result :=
  .next (((s.memWrite a16 (lowByte s.sp)).memWrite (a16 + 1) (highByte s.sp)).advance 3)

/-- `LD DE, d16` (0x11, R223): x[DE] <- d16. -/
def execLdDeD16 (d16 : Word) (s : State) : Result := .next ((s.setPair .de d16).advance 3)

/-- `LD HL, d16` (0x21, R224): x[HL] <- d16. -/
def execLdHlD16 (d16 : Word) (s : State) : Result := .next ((s.setPair .hl d16).advance 3)

/-- `LD SP, d16` (0x31, R225): x[SP] <- d16. -/
def execLdSpD16 (d16 : Word) (s : State) : Result := .next ((s.setPair .sp d16).advance 3)

/-- `POP BC` (0xC1, R227): x[BC] <- POP16(). -/
def execPopBc (s : State) : Result := popPair s .bc

/-- `PUSH BC` (0xC5, R228): PUSH16(x[BC]). -/
def execPushBc (s : State) : Result := pushPair s .bc

/-- `POP DE` (0xD1, R229): x[DE] <- POP16(). -/
def execPopDe (s : State) : Result := popPair s .de

/-- `PUSH DE` (0xD5, R230): PUSH16(x[DE]). -/
def execPushDe (s : State) : Result := pushPair s .de

/-- `POP HL` (0xE1, R231): x[HL] <- POP16(). -/
def execPopHl (s : State) : Result := popPair s .hl

/-- `PUSH HL` (0xE5, R232): PUSH16(x[HL]). -/
def execPushHl (s : State) : Result := pushPair s .hl

/-- `POP AF` (0xF1, R233): x[AF] <- POP16() with the low nibble of F dropped. -/
def execPopAf (s : State) : Result := popPair s .af

/-- `PUSH AF` (0xF5, R234): PUSH16(x[AF]). -/
def execPushAf (s : State) : Result := pushPair s .af

/-- `LD HL, SP+r8` (0xF8, R235): x[HL] <- SP + sext_16(r8), flags as ADDSP; SP unchanged. -/
def execLdHlSpR8 (r8 : Byte) (s : State) : Result :=
  .next (((s.setHl (addSp s.sp r8)).setFlags false false (addSpH s.sp r8) (addSpC s.sp r8)).advance 2)

/-- `LD SP, HL` (0xF9, R236): x[SP] <- x[HL]. -/
def execLdSpHl (s : State) : Result := .next ((s.setSp s.hl).advance 1)

end Sys2Proof.Machine
end

