-- ==== Sys2Proof/Machine/Load8.lean ====
section
/-! DEFINITION. 8-bit loads with an immediate, an indirect or a high-page operand (R130 to R153). -/

namespace Sys2Proof.Machine

/-- Copy a byte to a register; pc advances by the length; no flag changes (R130). -/
def loadReg (s : State) (dst : Reg8) (v : Byte) (len : Word) : Result :=
  .next ((s.setReg dst v).advance len)

/-- Load a register from memory: one read (R130). -/
def loadByte (s : State) (dst : Reg8) (addr : Word) (len : Word) : Result :=
  let r := s.memRead addr
  .next ((r.2.setReg dst r.1).advance len)

/-- Store a byte to memory: one write (R130). -/
def storeByte (s : State) (addr : Word) (v : Byte) (len : Word) : Result :=
  .next ((s.memWrite addr v).advance len)

/-- Load A from memory at HL, and then give HL its new value (R131, R145, R147). -/
def loadAThenStepHl (s : State) (hl : Word) : Result :=
  let r := s.memRead s.hl
  .next (((r.2.setReg .a r.1).setHl hl).advance 1)

/-- Store A to memory at HL, and then give HL its new value (R131, R144, R146). -/
def storeAThenStepHl (s : State) (hl : Word) : Result :=
  .next (((s.memWrite s.hl (s.reg .a)).setHl hl).advance 1)

/-- `LD (BC), A` (0x02, R132): memory at (BC) <- A. -/
def execLdAtBcA (s : State) : Result := storeByte s s.bc (s.reg .a) 1

/-- `LD B, d8` (0x06, R136): x[B] <- d8. -/
def execLdBD8 (d8 : Byte) (s : State) : Result := loadReg s .b d8 2

/-- `LD A, (BC)` (0x0A, R133): x[A] <- memory at (BC). -/
def execLdAAtBc (s : State) : Result := loadByte s .a s.bc 1

/-- `LD C, d8` (0x0E, R137): x[C] <- d8. -/
def execLdCD8 (d8 : Byte) (s : State) : Result := loadReg s .c d8 2

/-- `LD (DE), A` (0x12, R134): memory at (DE) <- A. -/
def execLdAtDeA (s : State) : Result := storeByte s s.de (s.reg .a) 1

/-- `LD D, d8` (0x16, R138): x[D] <- d8. -/
def execLdDD8 (d8 : Byte) (s : State) : Result := loadReg s .d d8 2

/-- `LD A, (DE)` (0x1A, R135): x[A] <- memory at (DE). -/
def execLdAAtDe (s : State) : Result := loadByte s .a s.de 1

/-- `LD E, d8` (0x1E, R139): x[E] <- d8. -/
def execLdED8 (d8 : Byte) (s : State) : Result := loadReg s .e d8 2

/-- `LD (HL+), A` (0x22, R144): A to memory at HL, then HL + 1. -/
def execLdAtHlIncA (s : State) : Result := storeAThenStepHl s (inc16 s.hl)

/-- `LD H, d8` (0x26, R140): x[H] <- d8. -/
def execLdHD8 (d8 : Byte) (s : State) : Result := loadReg s .h d8 2

/-- `LD A, (HL+)` (0x2A, R145): A from memory at HL, then HL + 1. -/
def execLdAAtHlInc (s : State) : Result := loadAThenStepHl s (inc16 s.hl)

/-- `LD L, d8` (0x2E, R141): x[L] <- d8. -/
def execLdLD8 (d8 : Byte) (s : State) : Result := loadReg s .l d8 2

/-- `LD (HL-), A` (0x32, R146): A to memory at HL, then HL - 1. -/
def execLdAtHlDecA (s : State) : Result := storeAThenStepHl s (dec16 s.hl)

/-- `LD (HL), d8` (0x36, R142): memory at (HL) <- d8. -/
def execLdAtHlD8 (d8 : Byte) (s : State) : Result := storeByte s s.hl d8 2

/-- `LD A, (HL-)` (0x3A, R147): A from memory at HL, then HL - 1. -/
def execLdAAtHlDec (s : State) : Result := loadAThenStepHl s (dec16 s.hl)

/-- `LD A, d8` (0x3E, R143): x[A] <- d8. -/
def execLdAD8 (d8 : Byte) (s : State) : Result := loadReg s .a d8 2

/-- `LD (FF00+a8), A` (0xE0, R148): memory at (FF00+a8) <- A. -/
def execLdAtIoA8A (a8 : Byte) (s : State) : Result := storeByte s (ioAddress a8) (s.reg .a) 2

/-- `LD (FF00+C), A` (0xE2, R149): memory at (FF00+C) <- A. -/
def execLdAtIoCA (s : State) : Result := storeByte s (ioAddress s.c) (s.reg .a) 1

/-- `LD (a16), A` (0xEA, R150): memory at (a16) <- A. -/
def execLdAtA16A (a16 : Word) (s : State) : Result := storeByte s a16 (s.reg .a) 3

/-- `LD A, (FF00+a8)` (0xF0, R151): x[A] <- memory at (FF00+a8). -/
def execLdAAtIoA8 (a8 : Byte) (s : State) : Result := loadByte s .a (ioAddress a8) 2

/-- `LD A, (FF00+C)` (0xF2, R152): x[A] <- memory at (FF00+C). -/
def execLdAAtIoC (s : State) : Result := loadByte s .a (ioAddress s.c) 1

/-- `LD A, (a16)` (0xFA, R153): x[A] <- memory at (a16). -/
def execLdAAtA16 (a16 : Word) (s : State) : Result := loadByte s .a a16 3

end Sys2Proof.Machine
end

