-- ==== Sys2Proof/Machine/Load8Reg.lean ====
section
/-! DEFINITION. 8-bit loads between registers and memory at HL (R154 to R216). -/

namespace Sys2Proof.Machine

/-- `LD B, B` (0x40, R154): x[B] <- x[B]. -/
def execLdBB (s : State) : Result := loadReg s .b (s.reg .b) 1

/-- `LD B, C` (0x41, R155): x[B] <- x[C]. -/
def execLdBC (s : State) : Result := loadReg s .b (s.reg .c) 1

/-- `LD B, D` (0x42, R156): x[B] <- x[D]. -/
def execLdBD (s : State) : Result := loadReg s .b (s.reg .d) 1

/-- `LD B, E` (0x43, R157): x[B] <- x[E]. -/
def execLdBE (s : State) : Result := loadReg s .b (s.reg .e) 1

/-- `LD B, H` (0x44, R158): x[B] <- x[H]. -/
def execLdBH (s : State) : Result := loadReg s .b (s.reg .h) 1

/-- `LD B, L` (0x45, R159): x[B] <- x[L]. -/
def execLdBL (s : State) : Result := loadReg s .b (s.reg .l) 1

/-- `LD B, (HL)` (0x46, R160): x[B] <- memory at (HL). -/
def execLdBAtHl (s : State) : Result := loadByte s .b s.hl 1

/-- `LD B, A` (0x47, R161): x[B] <- x[A]. -/
def execLdBA (s : State) : Result := loadReg s .b (s.reg .a) 1

/-- `LD C, B` (0x48, R162): x[C] <- x[B]. -/
def execLdCB (s : State) : Result := loadReg s .c (s.reg .b) 1

/-- `LD C, C` (0x49, R163): x[C] <- x[C]. -/
def execLdCC (s : State) : Result := loadReg s .c (s.reg .c) 1

/-- `LD C, D` (0x4A, R164): x[C] <- x[D]. -/
def execLdCD (s : State) : Result := loadReg s .c (s.reg .d) 1

/-- `LD C, E` (0x4B, R165): x[C] <- x[E]. -/
def execLdCE (s : State) : Result := loadReg s .c (s.reg .e) 1

/-- `LD C, H` (0x4C, R166): x[C] <- x[H]. -/
def execLdCH (s : State) : Result := loadReg s .c (s.reg .h) 1

/-- `LD C, L` (0x4D, R167): x[C] <- x[L]. -/
def execLdCL (s : State) : Result := loadReg s .c (s.reg .l) 1

/-- `LD C, (HL)` (0x4E, R168): x[C] <- memory at (HL). -/
def execLdCAtHl (s : State) : Result := loadByte s .c s.hl 1

/-- `LD C, A` (0x4F, R169): x[C] <- x[A]. -/
def execLdCA (s : State) : Result := loadReg s .c (s.reg .a) 1

/-- `LD D, B` (0x50, R170): x[D] <- x[B]. -/
def execLdDB (s : State) : Result := loadReg s .d (s.reg .b) 1

/-- `LD D, C` (0x51, R171): x[D] <- x[C]. -/
def execLdDC (s : State) : Result := loadReg s .d (s.reg .c) 1

/-- `LD D, D` (0x52, R172): x[D] <- x[D]. -/
def execLdDD (s : State) : Result := loadReg s .d (s.reg .d) 1

/-- `LD D, E` (0x53, R173): x[D] <- x[E]. -/
def execLdDE (s : State) : Result := loadReg s .d (s.reg .e) 1

/-- `LD D, H` (0x54, R174): x[D] <- x[H]. -/
def execLdDH (s : State) : Result := loadReg s .d (s.reg .h) 1

/-- `LD D, L` (0x55, R175): x[D] <- x[L]. -/
def execLdDL (s : State) : Result := loadReg s .d (s.reg .l) 1

/-- `LD D, (HL)` (0x56, R176): x[D] <- memory at (HL). -/
def execLdDAtHl (s : State) : Result := loadByte s .d s.hl 1

/-- `LD D, A` (0x57, R177): x[D] <- x[A]. -/
def execLdDA (s : State) : Result := loadReg s .d (s.reg .a) 1

/-- `LD E, B` (0x58, R178): x[E] <- x[B]. -/
def execLdEB (s : State) : Result := loadReg s .e (s.reg .b) 1

/-- `LD E, C` (0x59, R179): x[E] <- x[C]. -/
def execLdEC (s : State) : Result := loadReg s .e (s.reg .c) 1

/-- `LD E, D` (0x5A, R180): x[E] <- x[D]. -/
def execLdED (s : State) : Result := loadReg s .e (s.reg .d) 1

/-- `LD E, E` (0x5B, R181): x[E] <- x[E]. -/
def execLdEE (s : State) : Result := loadReg s .e (s.reg .e) 1

/-- `LD E, H` (0x5C, R182): x[E] <- x[H]. -/
def execLdEH (s : State) : Result := loadReg s .e (s.reg .h) 1

/-- `LD E, L` (0x5D, R183): x[E] <- x[L]. -/
def execLdEL (s : State) : Result := loadReg s .e (s.reg .l) 1

/-- `LD E, (HL)` (0x5E, R184): x[E] <- memory at (HL). -/
def execLdEAtHl (s : State) : Result := loadByte s .e s.hl 1

/-- `LD E, A` (0x5F, R185): x[E] <- x[A]. -/
def execLdEA (s : State) : Result := loadReg s .e (s.reg .a) 1

/-- `LD H, B` (0x60, R186): x[H] <- x[B]. -/
def execLdHB (s : State) : Result := loadReg s .h (s.reg .b) 1

/-- `LD H, C` (0x61, R187): x[H] <- x[C]. -/
def execLdHC (s : State) : Result := loadReg s .h (s.reg .c) 1

/-- `LD H, D` (0x62, R188): x[H] <- x[D]. -/
def execLdHD (s : State) : Result := loadReg s .h (s.reg .d) 1

/-- `LD H, E` (0x63, R189): x[H] <- x[E]. -/
def execLdHE (s : State) : Result := loadReg s .h (s.reg .e) 1

/-- `LD H, H` (0x64, R190): x[H] <- x[H]. -/
def execLdHH (s : State) : Result := loadReg s .h (s.reg .h) 1

/-- `LD H, L` (0x65, R191): x[H] <- x[L]. -/
def execLdHL (s : State) : Result := loadReg s .h (s.reg .l) 1

/-- `LD H, (HL)` (0x66, R192): x[H] <- memory at (HL). -/
def execLdHAtHl (s : State) : Result := loadByte s .h s.hl 1

/-- `LD H, A` (0x67, R193): x[H] <- x[A]. -/
def execLdHA (s : State) : Result := loadReg s .h (s.reg .a) 1

/-- `LD L, B` (0x68, R194): x[L] <- x[B]. -/
def execLdLB (s : State) : Result := loadReg s .l (s.reg .b) 1

/-- `LD L, C` (0x69, R195): x[L] <- x[C]. -/
def execLdLC (s : State) : Result := loadReg s .l (s.reg .c) 1

/-- `LD L, D` (0x6A, R196): x[L] <- x[D]. -/
def execLdLD (s : State) : Result := loadReg s .l (s.reg .d) 1

/-- `LD L, E` (0x6B, R197): x[L] <- x[E]. -/
def execLdLE (s : State) : Result := loadReg s .l (s.reg .e) 1

/-- `LD L, H` (0x6C, R198): x[L] <- x[H]. -/
def execLdLH (s : State) : Result := loadReg s .l (s.reg .h) 1

/-- `LD L, L` (0x6D, R199): x[L] <- x[L]. -/
def execLdLL (s : State) : Result := loadReg s .l (s.reg .l) 1

/-- `LD L, (HL)` (0x6E, R200): x[L] <- memory at (HL). -/
def execLdLAtHl (s : State) : Result := loadByte s .l s.hl 1

/-- `LD L, A` (0x6F, R201): x[L] <- x[A]. -/
def execLdLA (s : State) : Result := loadReg s .l (s.reg .a) 1

/-- `LD (HL), B` (0x70, R202): memory at (HL) <- B. -/
def execLdAtHlB (s : State) : Result := storeByte s s.hl (s.reg .b) 1

/-- `LD (HL), C` (0x71, R203): memory at (HL) <- C. -/
def execLdAtHlC (s : State) : Result := storeByte s s.hl (s.reg .c) 1

/-- `LD (HL), D` (0x72, R204): memory at (HL) <- D. -/
def execLdAtHlD (s : State) : Result := storeByte s s.hl (s.reg .d) 1

/-- `LD (HL), E` (0x73, R205): memory at (HL) <- E. -/
def execLdAtHlE (s : State) : Result := storeByte s s.hl (s.reg .e) 1

/-- `LD (HL), H` (0x74, R206): memory at (HL) <- H. -/
def execLdAtHlH (s : State) : Result := storeByte s s.hl (s.reg .h) 1

/-- `LD (HL), L` (0x75, R207): memory at (HL) <- L. -/
def execLdAtHlL (s : State) : Result := storeByte s s.hl (s.reg .l) 1

/-- `LD (HL), A` (0x77, R208): memory at (HL) <- A. -/
def execLdAtHlA (s : State) : Result := storeByte s s.hl (s.reg .a) 1

/-- `LD A, B` (0x78, R209): x[A] <- x[B]. -/
def execLdAB (s : State) : Result := loadReg s .a (s.reg .b) 1

/-- `LD A, C` (0x79, R210): x[A] <- x[C]. -/
def execLdAC (s : State) : Result := loadReg s .a (s.reg .c) 1

/-- `LD A, D` (0x7A, R211): x[A] <- x[D]. -/
def execLdAD (s : State) : Result := loadReg s .a (s.reg .d) 1

/-- `LD A, E` (0x7B, R212): x[A] <- x[E]. -/
def execLdAE (s : State) : Result := loadReg s .a (s.reg .e) 1

/-- `LD A, H` (0x7C, R213): x[A] <- x[H]. -/
def execLdAH (s : State) : Result := loadReg s .a (s.reg .h) 1

/-- `LD A, L` (0x7D, R214): x[A] <- x[L]. -/
def execLdAL (s : State) : Result := loadReg s .a (s.reg .l) 1

/-- `LD A, (HL)` (0x7E, R215): x[A] <- memory at (HL). -/
def execLdAAtHl (s : State) : Result := loadByte s .a s.hl 1

/-- `LD A, A` (0x7F, R216): x[A] <- x[A]. -/
def execLdAA (s : State) : Result := loadReg s .a (s.reg .a) 1

end Sys2Proof.Machine
end

