-- ==== Sys2Proof/Machine/Logic8.lean ====
section
/-! DEFINITION. 8-bit logic and compare (R305 to R340). -/

namespace Sys2Proof.Machine

/-- `AND B` (0xA0, R305): AND, of A and B. -/
def execAndB (s : State) : Result := setAcc s (and8 s.a (s.reg .b)) 1

/-- `AND C` (0xA1, R306): AND, of A and C. -/
def execAndC (s : State) : Result := setAcc s (and8 s.a (s.reg .c)) 1

/-- `AND D` (0xA2, R307): AND, of A and D. -/
def execAndD (s : State) : Result := setAcc s (and8 s.a (s.reg .d)) 1

/-- `AND E` (0xA3, R308): AND, of A and E. -/
def execAndE (s : State) : Result := setAcc s (and8 s.a (s.reg .e)) 1

/-- `AND H` (0xA4, R309): AND, of A and H. -/
def execAndH (s : State) : Result := setAcc s (and8 s.a (s.reg .h)) 1

/-- `AND L` (0xA5, R310): AND, of A and L. -/
def execAndL (s : State) : Result := setAcc s (and8 s.a (s.reg .l)) 1

/-- `AND (HL)` (0xA6, R311): AND, of A and the byte at HL. -/
def execAndAtHl (s : State) : Result := setAcc (s.memRead s.hl).2 (and8 s.a (s.memRead s.hl).1) 1

/-- `AND A` (0xA7, R312): AND, of A and A. -/
def execAndA (s : State) : Result := setAcc s (and8 s.a (s.reg .a)) 1

/-- `XOR B` (0xA8, R313): XOR, of A and B. -/
def execXorB (s : State) : Result := setAcc s (xor8 s.a (s.reg .b)) 1

/-- `XOR C` (0xA9, R314): XOR, of A and C. -/
def execXorC (s : State) : Result := setAcc s (xor8 s.a (s.reg .c)) 1

/-- `XOR D` (0xAA, R315): XOR, of A and D. -/
def execXorD (s : State) : Result := setAcc s (xor8 s.a (s.reg .d)) 1

/-- `XOR E` (0xAB, R316): XOR, of A and E. -/
def execXorE (s : State) : Result := setAcc s (xor8 s.a (s.reg .e)) 1

/-- `XOR H` (0xAC, R317): XOR, of A and H. -/
def execXorH (s : State) : Result := setAcc s (xor8 s.a (s.reg .h)) 1

/-- `XOR L` (0xAD, R318): XOR, of A and L. -/
def execXorL (s : State) : Result := setAcc s (xor8 s.a (s.reg .l)) 1

/-- `XOR (HL)` (0xAE, R319): XOR, of A and the byte at HL. -/
def execXorAtHl (s : State) : Result := setAcc (s.memRead s.hl).2 (xor8 s.a (s.memRead s.hl).1) 1

/-- `XOR A` (0xAF, R320): XOR, of A and A. -/
def execXorA (s : State) : Result := setAcc s (xor8 s.a (s.reg .a)) 1

/-- `OR B` (0xB0, R321): OR, of A and B. -/
def execOrB (s : State) : Result := setAcc s (or8 s.a (s.reg .b)) 1

/-- `OR C` (0xB1, R322): OR, of A and C. -/
def execOrC (s : State) : Result := setAcc s (or8 s.a (s.reg .c)) 1

/-- `OR D` (0xB2, R323): OR, of A and D. -/
def execOrD (s : State) : Result := setAcc s (or8 s.a (s.reg .d)) 1

/-- `OR E` (0xB3, R324): OR, of A and E. -/
def execOrE (s : State) : Result := setAcc s (or8 s.a (s.reg .e)) 1

/-- `OR H` (0xB4, R325): OR, of A and H. -/
def execOrH (s : State) : Result := setAcc s (or8 s.a (s.reg .h)) 1

/-- `OR L` (0xB5, R326): OR, of A and L. -/
def execOrL (s : State) : Result := setAcc s (or8 s.a (s.reg .l)) 1

/-- `OR (HL)` (0xB6, R327): OR, of A and the byte at HL. -/
def execOrAtHl (s : State) : Result := setAcc (s.memRead s.hl).2 (or8 s.a (s.memRead s.hl).1) 1

/-- `OR A` (0xB7, R328): OR, of A and A. -/
def execOrA (s : State) : Result := setAcc s (or8 s.a (s.reg .a)) 1

/-- `CP B` (0xB8, R329): SUB8 without storing, of A and B. -/
def execCpB (s : State) : Result := setFlagsOnly s (sub8 s.a (s.reg .b) false) 1

/-- `CP C` (0xB9, R330): SUB8 without storing, of A and C. -/
def execCpC (s : State) : Result := setFlagsOnly s (sub8 s.a (s.reg .c) false) 1

/-- `CP D` (0xBA, R331): SUB8 without storing, of A and D. -/
def execCpD (s : State) : Result := setFlagsOnly s (sub8 s.a (s.reg .d) false) 1

/-- `CP E` (0xBB, R332): SUB8 without storing, of A and E. -/
def execCpE (s : State) : Result := setFlagsOnly s (sub8 s.a (s.reg .e) false) 1

/-- `CP H` (0xBC, R333): SUB8 without storing, of A and H. -/
def execCpH (s : State) : Result := setFlagsOnly s (sub8 s.a (s.reg .h) false) 1

/-- `CP L` (0xBD, R334): SUB8 without storing, of A and L. -/
def execCpL (s : State) : Result := setFlagsOnly s (sub8 s.a (s.reg .l) false) 1

/-- `CP (HL)` (0xBE, R335): SUB8 without storing, of A and the byte at HL. -/
def execCpAtHl (s : State) : Result := setFlagsOnly (s.memRead s.hl).2 (sub8 s.a (s.memRead s.hl).1 false) 1

/-- `CP A` (0xBF, R336): SUB8 without storing, of A and A. -/
def execCpA (s : State) : Result := setFlagsOnly s (sub8 s.a (s.reg .a) false) 1

/-- `AND d8` (0xE6, R337): AND, of A and d8. -/
def execAndD8 (d8 : Byte) (s : State) : Result := setAcc s (and8 s.a d8) 2

/-- `XOR d8` (0xEE, R338): XOR, of A and d8. -/
def execXorD8 (d8 : Byte) (s : State) : Result := setAcc s (xor8 s.a d8) 2

/-- `OR d8` (0xF6, R339): OR, of A and d8. -/
def execOrD8 (d8 : Byte) (s : State) : Result := setAcc s (or8 s.a d8) 2

/-- `CP d8` (0xFE, R340): SUB8 without storing, of A and d8. -/
def execCpD8 (d8 : Byte) (s : State) : Result := setFlagsOnly s (sub8 s.a d8 false) 2

end Sys2Proof.Machine
end

