-- ==== Sys2Proof/Machine/Rotate.lean ====
section
/-! DEFINITION. Rotates of A, decimal adjust, complement and the carry flag (R360 to R368). -/

namespace Sys2Proof.Machine

/-- A takes a rotated value; C takes the bit rotated out; Z, N and H are cleared (R360 to R364). -/
def rotateA (s : State) (res : Byte) (out : Bool) : Result :=
  .next (((s.setReg .a res).setFlags false false false out).advance 1)

/-- `RLCA` (0x07, R361): bit 7 of A to bit 0 and to C. -/
def execRlca (s : State) : Result := rotateA s (rotateLeft s.a) (s.a.getLsbD 7)

/-- `RRCA` (0x0F, R362): bit 0 of A to bit 7 and to C. -/
def execRrca (s : State) : Result := rotateA s (rotateRight s.a) (s.a.getLsbD 0)

/-- `RLA` (0x17, R363): the old C to bit 0, bit 7 to C. -/
def execRla (s : State) : Result := rotateA s (rotateLeftThrough s.a s.flagC) (s.a.getLsbD 7)

/-- `RRA` (0x1F, R364): the old C to bit 7, bit 0 to C. -/
def execRra (s : State) : Result := rotateA s (rotateRightThrough s.a s.flagC) (s.a.getLsbD 0)

/-- `DAA` (0x27, R365): decimal adjust. -/
def execDaa (s : State) : Result := setAcc s (Sys2Proof.Machine.daa s.a s.flagN s.flagH s.flagC) 1

/-- `CPL` (0x2F, R366): A <- A ^ 0xFF, N <- 1, H <- 1. -/
def execCpl (s : State) : Result :=
  .next (((s.setReg .a (s.a ^^^ 0xFF)).setFlags s.flagZ true true s.flagC).advance 1)

/-- `SCF` (0x37, R367): C <- 1, N <- 0, H <- 0. -/
def execScf (s : State) : Result := .next ((s.setFlags s.flagZ false false true).advance 1)

/-- `CCF` (0x3F, R368): C <- 1 - C, N <- 0, H <- 0. -/
def execCcf (s : State) : Result := .next ((s.setFlags s.flagZ false false (!s.flagC)).advance 1)

end Sys2Proof.Machine
end

