-- ==== Sys2Proof/Machine/Fetch.lean ====
section
/-! DEFINITION. Fetching an instruction at pc, and placing bytes in memory where a fetch will find them. -/

namespace Sys2Proof.Machine

/-- Fetch and decode at pc (R91, R100, R122): the opcode byte by one read at pc, then its operand bytes by one read
each at pc + 1 and pc + 2, every address modulo 2^16 (R78, R81). pc itself does not move (R34). -/
def State.fetch (s : State) : Instr × State :=
  let r := s.memRead s.pc
  match opcodeRow r.1 with
  | .op i => (i, r.2)
  | .operand8 form =>
    let p := r.2.memRead (s.pc + 1)
    (form p.1, p.2)
  | .operand16 form =>
    let p := r.2.memRead (s.pc + 1)
    let q := p.2.memRead (s.pc + 2)
    (form (joinBytes q.1 p.1), q.2)

/-- Place bytes in memory from an address on, the first at the lowest address, without any bus access. -/
def State.placeBytes (s : State) (a : Word) : List Byte → State
  | [] => s
  | v :: t => (s.poke a v).placeBytes (a + 1) t

end Sys2Proof.Machine
end

