-- ==== Sys2Proof/Machine/Sequence.lean ====
section
/-! DEFINITION. The stages of one step (R510), over the meanings of the instructions. -/

namespace Sys2Proof.Machine

/-- Stage 5: fetch, decode and execute one instruction (R510). -/
def State.runInstruction (s : State) : Result := exec s.fetch.1 s.fetch.2

/-- Stages 3 to 5: where IME = 1 and an enabled source requests, trap entry is the whole step; otherwise a set
ei_pending sets IME, and then one instruction runs (R510, R511). -/
def State.runFromInterruptCheck (s : State) : Result :=
  if s.ime then
    match s.irqSelect with
    | some (vector, s') => .next (s'.trapEntry vector)
    | none => s.delayedEnable.runInstruction
  else s.delayedEnable.runInstruction

/-- All stages, by the mode (R510, R515, R516): a halted CPU wakes when an enabled source requests, whatever IME is,
a stopped one when `ButtonPress` occurs, and the same step goes on with stage 3; otherwise the step changes nothing. -/
def State.runStages (s : State) (buttonPress : Bool) : Result :=
  match s.mode with
  | .running => s.runFromInterruptCheck
  | .halted => if s.irqRequested then { s with mode := .running }.runFromInterruptCheck else .next s
  | .stopped => if buttonPress then { s with mode := .running }.runFromInterruptCheck else .next s

/-- One step: the platform delivers the step's input, then the CPU runs its stages (R510; log 6). -/
def State.runStep (s : State) : Result := s.takeInput.2.runStages s.takeInput.1

end Sys2Proof.Machine
end

