-- ==== Sys2Proof/Machine/Step.lean ====
section
/-! DEFINITION. The step function, and how an instruction is put where the next step fetches it. -/

namespace Sys2Proof.Machine

/-- One step of the machine (R510). -/
def step : State → Host.Outcome State Fault Refusal := fun s => s.runStep

/-- The state with the instruction whose bits are w stored in three bytes from pc on, the bus FlatRAM and the mode
Running, so that the next step fetches it (log 12). -/
def State.withFetchWord (s : State) (nbits w : Nat) : State :=
  { s.placeBytes s.pc (tableBytes nbits w) with mode := .running, config := { s.config with bus := .flatRam } }

end Sys2Proof.Machine
end

