-- ==== Sys2Proof/OpcodeMap.lean ====
section
/-! DEFINITION. The regular groups of the opcode map by their operands (R105 to R109, R114 to R117): each name gives
the constructor of `Instr` that stands at that place of the map. -/

namespace Sys2Proof

/-- The eight accumulator operations of the table alu[] (R108). -/
inductive AluOp where
  | add | adc | sub | sbc | and | xor | or | cp
  deriving DecidableEq, Repr

/-- An operand of an accumulator operation (R244): a register, the byte at HL, or the byte after the opcode. -/
inductive Operand8 where
  | reg (r : Reg8)
  | atHl
  | d8 (v : Byte)
  deriving DecidableEq, Repr

/-- The operand table r[] (R105). -/
def operandTable : Fin 8 → Operand8
  | 0 => .reg .b
  | 1 => .reg .c
  | 2 => .reg .d
  | 3 => .reg .e
  | 4 => .reg .h
  | 5 => .reg .l
  | 6 => .atHl
  | 7 => .reg .a

/-- The operation table alu[] (R108). -/
def aluTable : Fin 8 → AluOp
  | 0 => .add
  | 1 => .adc
  | 2 => .sub
  | 3 => .sbc
  | 4 => .and
  | 5 => .xor
  | 6 => .or
  | 7 => .cp

/-- The pair table rp[] (R106). -/
def pairTable : Fin 4 → Reg16
  | 0 => .bc
  | 1 => .de
  | 2 => .hl
  | 3 => .sp

/-- The pair table rp2[] (R106). -/
def stackTable : Fin 4 → StackReg
  | 0 => .bc
  | 1 => .de
  | 2 => .hl
  | 3 => .af

/-- The condition table cc[] (R107). -/
def condTable : Fin 4 → Cond
  | 0 => .nz
  | 1 => .z
  | 2 => .nc
  | 3 => .c

/-- `LD r, r'` between registers: the first is the destination (R115, R154 to R216). -/
def Instr.ldRegReg : Reg8 → Reg8 → Instr
  | .b, .b => .ldBB
  | .b, .c => .ldBC
  | .b, .d => .ldBD
  | .b, .e => .ldBE
  | .b, .h => .ldBH
  | .b, .l => .ldBL
  | .b, .a => .ldBA
  | .c, .b => .ldCB
  | .c, .c => .ldCC
  | .c, .d => .ldCD
  | .c, .e => .ldCE
  | .c, .h => .ldCH
  | .c, .l => .ldCL
  | .c, .a => .ldCA
  | .d, .b => .ldDB
  | .d, .c => .ldDC
  | .d, .d => .ldDD
  | .d, .e => .ldDE
  | .d, .h => .ldDH
  | .d, .l => .ldDL
  | .d, .a => .ldDA
  | .e, .b => .ldEB
  | .e, .c => .ldEC
  | .e, .d => .ldED
  | .e, .e => .ldEE
  | .e, .h => .ldEH
  | .e, .l => .ldEL
  | .e, .a => .ldEA
  | .h, .b => .ldHB
  | .h, .c => .ldHC
  | .h, .d => .ldHD
  | .h, .e => .ldHE
  | .h, .h => .ldHH
  | .h, .l => .ldHL
  | .h, .a => .ldHA
  | .l, .b => .ldLB
  | .l, .c => .ldLC
  | .l, .d => .ldLD
  | .l, .e => .ldLE
  | .l, .h => .ldLH
  | .l, .l => .ldLL
  | .l, .a => .ldLA
  | .a, .b => .ldAB
  | .a, .c => .ldAC
  | .a, .d => .ldAD
  | .a, .e => .ldAE
  | .a, .h => .ldAH
  | .a, .l => .ldAL
  | .a, .a => .ldAA

/-- `LD r, (HL)` (R115). -/
def Instr.ldRegAtHl : Reg8 → Instr
  | .b => .ldBAtHl
  | .c => .ldCAtHl
  | .d => .ldDAtHl
  | .e => .ldEAtHl
  | .h => .ldHAtHl
  | .l => .ldLAtHl
  | .a => .ldAAtHl

/-- `LD (HL), r` (R115). -/
def Instr.ldAtHlReg : Reg8 → Instr
  | .b => .ldAtHlB
  | .c => .ldAtHlC
  | .d => .ldAtHlD
  | .e => .ldAtHlE
  | .h => .ldAtHlH
  | .l => .ldAtHlL
  | .a => .ldAtHlA

/-- `LD r, d8` (R114). -/
def Instr.ldRegD8 : Reg8 → Byte → Instr
  | .b, d8 => .ldBD8 d8
  | .c, d8 => .ldCD8 d8
  | .d, d8 => .ldDD8 d8
  | .e, d8 => .ldED8 d8
  | .h, d8 => .ldHD8 d8
  | .l, d8 => .ldLD8 d8
  | .a, d8 => .ldAD8 d8

/-- `INC r` (R114). -/
def Instr.incReg8 : Reg8 → Instr
  | .b => .incB
  | .c => .incC
  | .d => .incD
  | .e => .incE
  | .h => .incH
  | .l => .incL
  | .a => .incA

/-- `DEC r` (R114). -/
def Instr.decReg8 : Reg8 → Instr
  | .b => .decB
  | .c => .decC
  | .d => .decD
  | .e => .decE
  | .h => .decH
  | .l => .decL
  | .a => .decA

/-- The accumulator operations with a register operand (R116). -/
def Instr.aluReg : AluOp → Reg8 → Instr
  | .add, .b => .addAB
  | .add, .c => .addAC
  | .add, .d => .addAD
  | .add, .e => .addAE
  | .add, .h => .addAH
  | .add, .l => .addAL
  | .add, .a => .addAA
  | .adc, .b => .adcAB
  | .adc, .c => .adcAC
  | .adc, .d => .adcAD
  | .adc, .e => .adcAE
  | .adc, .h => .adcAH
  | .adc, .l => .adcAL
  | .adc, .a => .adcAA
  | .sub, .b => .subB
  | .sub, .c => .subC
  | .sub, .d => .subD
  | .sub, .e => .subE
  | .sub, .h => .subH
  | .sub, .l => .subL
  | .sub, .a => .subA
  | .sbc, .b => .sbcAB
  | .sbc, .c => .sbcAC
  | .sbc, .d => .sbcAD
  | .sbc, .e => .sbcAE
  | .sbc, .h => .sbcAH
  | .sbc, .l => .sbcAL
  | .sbc, .a => .sbcAA
  | .and, .b => .andB
  | .and, .c => .andC
  | .and, .d => .andD
  | .and, .e => .andE
  | .and, .h => .andH
  | .and, .l => .andL
  | .and, .a => .andA
  | .xor, .b => .xorB
  | .xor, .c => .xorC
  | .xor, .d => .xorD
  | .xor, .e => .xorE
  | .xor, .h => .xorH
  | .xor, .l => .xorL
  | .xor, .a => .xorA
  | .or, .b => .orB
  | .or, .c => .orC
  | .or, .d => .orD
  | .or, .e => .orE
  | .or, .h => .orH
  | .or, .l => .orL
  | .or, .a => .orA
  | .cp, .b => .cpB
  | .cp, .c => .cpC
  | .cp, .d => .cpD
  | .cp, .e => .cpE
  | .cp, .h => .cpH
  | .cp, .l => .cpL
  | .cp, .a => .cpA

/-- The accumulator operations with the operand `(HL)` (R116). -/
def Instr.aluAtHl : AluOp → Instr
  | .add => .addAAtHl
  | .adc => .adcAAtHl
  | .sub => .subAtHl
  | .sbc => .sbcAAtHl
  | .and => .andAtHl
  | .xor => .xorAtHl
  | .or => .orAtHl
  | .cp => .cpAtHl

/-- The accumulator operations with an immediate operand (R117). -/
def Instr.aluD8 : AluOp → Byte → Instr
  | .add, d8 => .addAD8 d8
  | .adc, d8 => .adcAD8 d8
  | .sub, d8 => .subD8 d8
  | .sbc, d8 => .sbcAD8 d8
  | .and, d8 => .andD8 d8
  | .xor, d8 => .xorD8 d8
  | .or, d8 => .orD8 d8
  | .cp, d8 => .cpD8 d8

/-- An accumulator operation on any of its operand forms (R244). -/
def Instr.alu (op : AluOp) : Operand8 → Instr
  | .reg r => .aluReg op r
  | .atHl => .aluAtHl op
  | .d8 v => .aluD8 op v

/-- `LD` between two places of the operand table; where both are `(HL)` the byte is `HALT` (R115). -/
def Instr.ldOrHalt : Operand8 → Operand8 → Instr
  | .reg dst, .reg src => .ldRegReg dst src
  | .reg dst, .atHl => .ldRegAtHl dst
  | .atHl, .reg src => .ldAtHlReg src
  | _, _ => .halt

/-- `LD rr, d16` (R114). -/
def Instr.ldPairD16 : Reg16 → Word → Instr
  | .bc, d16 => .ldBcD16 d16
  | .de, d16 => .ldDeD16 d16
  | .hl, d16 => .ldHlD16 d16
  | .sp, d16 => .ldSpD16 d16

/-- `INC rr` (R114). -/
def Instr.incPair : Reg16 → Instr
  | .bc => .incBc
  | .de => .incDe
  | .hl => .incHl
  | .sp => .incSp

/-- `DEC rr` (R114). -/
def Instr.decPair : Reg16 → Instr
  | .bc => .decBc
  | .de => .decDe
  | .hl => .decHl
  | .sp => .decSp

/-- `ADD HL, rr` (R114). -/
def Instr.addHlPair : Reg16 → Instr
  | .bc => .addHlBc
  | .de => .addHlDe
  | .hl => .addHlHl
  | .sp => .addHlSp

/-- `PUSH rr` (R117). -/
def Instr.pushStack : StackReg → Instr
  | .bc => .pushBc
  | .de => .pushDe
  | .hl => .pushHl
  | .af => .pushAf

/-- `POP rr` (R117). -/
def Instr.popStack : StackReg → Instr
  | .bc => .popBc
  | .de => .popDe
  | .hl => .popHl
  | .af => .popAf

/-- `JR cc, r8` (R114). -/
def Instr.jrCond : Cond → Byte → Instr
  | .nz, r8 => .jrNzR8 r8
  | .z, r8 => .jrZR8 r8
  | .nc, r8 => .jrNcR8 r8
  | .c, r8 => .jrCR8 r8

/-- `JP cc, a16` (R117). -/
def Instr.jpCond : Cond → Word → Instr
  | .nz, a16 => .jpNzA16 a16
  | .z, a16 => .jpZA16 a16
  | .nc, a16 => .jpNcA16 a16
  | .c, a16 => .jpCA16 a16

/-- `CALL cc, a16` (R117). -/
def Instr.callCond : Cond → Word → Instr
  | .nz, a16 => .callNzA16 a16
  | .z, a16 => .callZA16 a16
  | .nc, a16 => .callNcA16 a16
  | .c, a16 => .callCA16 a16

/-- `RET cc` (R117). -/
def Instr.retCond : Cond → Instr
  | .nz => .retNz
  | .z => .retZ
  | .nc => .retNc
  | .c => .retC

/-- `RST 8 y` (R109, R117). -/
def Instr.rst : Fin 8 → Instr
  | 0 => .rst00
  | 1 => .rst08
  | 2 => .rst10
  | 3 => .rst18
  | 4 => .rst20
  | 5 => .rst28
  | 6 => .rst30
  | 7 => .rst38

/-- The eleven unlisted bytes, each with its opcode (R118). -/
def unlistedRows : List (Byte × Instr) :=
  [(0xD3, .unlistedD3), (0xDB, .unlistedDB), (0xDD, .unlistedDD), (0xE3, .unlistedE3),
   (0xE4, .unlistedE4), (0xEB, .unlistedEB), (0xEC, .unlistedEC), (0xED, .unlistedED),
   (0xF4, .unlistedF4), (0xFC, .unlistedFC), (0xFD, .unlistedFD)]

end Sys2Proof
end

