-- ==== Sys2Proof/WellFormed.lean ====
section
/-! DEFINITION. Which terms of `Instr` are instructions of the CPU. -/

namespace Sys2Proof

/-- The eleven byte values with no row in the source table are not instructions (R118, R417). -/
def Instr.unlisted : Instr → Bool
  | .unlistedD3 | .unlistedDB | .unlistedDD | .unlistedE3 | .unlistedE4 | .unlistedEB | .unlistedEC | .unlistedED | .unlistedF4 | .unlistedFC | .unlistedFD => true
  | _ => false

/-- The prefix byte starts an instruction that the source excludes; by itself it is none (R119, R416). -/
def Instr.excludedPrefix : Instr → Bool
  | .cbPrefix => true
  | _ => false

/-- An instruction of the source table: one of the 244 rows (R100). Every operand is any value of its width, so
there is nothing else to check (R110 to R113). -/
def Instr.wellFormed (i : Instr) : Bool := !i.unlisted && !i.excludedPrefix

end Sys2Proof
end

