-- ==== Sys2Proof/Safety.lean ====
section
/-! DEFINITION. The terms in which statements about the machine speak: good states, the end of a run, what a step
is about to do, and the spec's tables of flag effects, stack pointer writes and bus accesses. -/

namespace Sys2Proof.Machine

/-! ### States -/

/-- A state that `ResetState` may be (R46, R560): Running, IME = 0, ei_pending = 0, a zero low nibble of F. -/
def State.isResetState (s : State) : Prop :=
  s.mode = .running ∧ s.ime = false ∧ s.eiPending = false ∧ s.f &&& 0x0F = 0

/-- The invariant: bits 3 to 0 of F are 0 (R36, R45), and memory has its canonical form. -/
def State.inv (s : State) : Prop := s.f &&& 0x0F = 0 ∧ s.mem.wf = true

/-- The run has ended at `endPc`, at the start of a step (R573). -/
def State.runEnds (s : State) (endPc : Word) : Prop := s.mode = .running ∧ s.pc = endPc

/-- Stages 1 and 2 of the step go on: the CPU runs, or it is halted and an enabled source requests, or it is stopped
and `ButtonPress` occurs (R510, R515, R516). -/
def State.awake (s : State) (buttonPress : Bool) : Prop :=
  s.mode = .running ∨ (s.mode = .halted ∧ s.irqRequested = true) ∨ (s.mode = .stopped ∧ buttonPress = true)

/-- Stage 3 of the step takes an interrupt: IME = 1 and an enabled source requests (R505, R510). -/
def State.interruptDue (s : State) : Prop := s.ime = true ∧ s.irqRequested = true

/-- The state in which stage 5 of the step begins: the mode is Running and a pending enable has been made (R510,
stages 1 to 4). -/
def State.ready (s : State) : State :=
  { s with mode := .running, ime := s.ime || s.eiPending, eiPending := false }

/-- n bytes from an address on, one read for each in ascending order, and the state after them (R80, R91). -/
def State.readBytes (s : State) (a : Word) : Nat → List Byte × State
  | 0 => ([], s)
  | n + 1 =>
    let r := s.memRead a
    let q := r.2.readBytes (a + 1) n
    (r.1 :: q.1, q.2)

/-- The state with no record of accesses. -/
def State.withoutLog (s : State) : State := { s with busLog := none }

/-- An answer with no record of accesses. -/
def withoutLog : Result → Result
  | .next s => .next s.withoutLog
  | .fault r => .fault r
  | .refused r => .refused r

/-! ### Memory -/

/-- What the location a holds once v has been written to it: v (R73), but with bits 7 to 5 set at the address of IF
under the instance `gameBoy` (R507). -/
def State.keeps (s : State) (a : Word) (v : Byte) : Byte :=
  if s.config.irq = .gameBoy ∧ a = 0xFF0F then v ||| 0xE0 else v

/-- The locations of t are those of s with v written at a, every other one as before (R73). Of the locations of the
platform's own bus this says nothing: there the state after the write is all that can be said (R80). -/
def StoredByte (s t : State) (a : Word) (v : Byte) : Prop :=
  ∀ b, s.onPlatform b = false → t.peek b = if b = a then s.keeps a v else s.peek b

/-- The same with the low byte of v written at a and the high byte at a + 1 modulo 2^16 (R73, R75). -/
def StoredWord (s t : State) (a : Word) (v : Word) : Prop :=
  ∀ b, s.onPlatform b = false → t.peek b =
    if b = a then s.keeps b (BitVec.ofNat 8 (v.toNat % 256))
    else if b = a + 1 then s.keeps b (BitVec.ofNat 8 (v.toNat / 256))
    else s.peek b

/-- Every location of t reads as in s, but for those of the platform's own bus (R73). -/
def StoredNothing (s t : State) : Prop := ∀ b, s.onPlatform b = false → t.peek b = s.peek b

/-- The 16-bit value read at a by two reads, the low byte at a and then the high byte at a + 1 modulo 2^16, and the
state after them (R75, R76). -/
def State.readWord (s : State) (a : Word) : Word × State :=
  let r := s.memRead a
  let q := r.2.memRead (a + 1)
  (BitVec.ofNat 16 (r.1.toNat + 256 * q.1.toNat), q.2)

/-- The two bytes below SP read back as they are written: they do not lie on the platform's own bus, and neither is
the IF register of the instance `gameBoy`, whose high bits are fixed (R73, R507). -/
def State.stackIsPlain (s : State) : Prop :=
  s.onPlatform (s.sp - 1) = false ∧ s.onPlatform (s.sp - 2) = false ∧
    (s.config.irq = .gameBoy → s.sp - 1 ≠ 0xFF0F ∧ s.sp - 2 ≠ 0xFF0F)

/-- The platform's own bus goes from one state to another over a sequence of accesses, answering every read that goes
to it (R72, R80). -/
def State.busRun (s : State) : BusState → List BusAccess → BusState → Prop
  | b, [], b' => b' = b
  | b, .read a v :: t, b' =>
    (s.onPlatform a = true → v = (Config.busRead b a).1) ∧
      s.busRun (if s.onPlatform a then (Config.busRead b a).2 else b) t b'
  | b, .write a v :: t, b' => s.busRun (if s.onPlatform a then Config.busWrite b a v else b) t b'

/-! ### Operands -/

/-- The value of an operand of an accumulator operation (R244). -/
def State.operand (s : State) : Operand8 → Byte
  | .reg r => s.reg r
  | .atHl => s.peek s.hl
  | .d8 v => v

/-- The length of an accumulator operation with that operand (R244). -/
def operandLength : Operand8 → Word
  | .reg _ => 1
  | .atHl => 1
  | .d8 _ => 2

/-- The state once the operand of an accumulator operation has been read: one read for `(HL)`, none for the others
(R244). -/
def State.afterOperand (s : State) : Operand8 → State
  | .reg _ => s
  | .atHl => (s.memRead s.hl).2
  | .d8 _ => s

/-- The packed BCD form of a number below 100: the tens in the high nibble, the units in the low one. -/
def bcd (n : Nat) : Byte := BitVec.ofNat 8 (16 * (n / 10) + n % 10)

/-! ### The spec's tables over all instructions -/

/-- What an instruction does to one flag (R37). -/
inductive FlagEffect where
  | kept
  | cleared
  | set
  | computed
  deriving DecidableEq, Repr

/-- The effect as a relation between the flag before and after; `computed` allows both values. -/
def FlagEffect.allows : FlagEffect → Bool → Bool → Prop
  | .kept, before, after => after = before
  | .cleared, _, after => after = false
  | .set, _, after => after = true
  | .computed, _, _ => True

/-- The effects on the four flags. -/
structure FlagEffects where
  z : FlagEffect
  n : FlagEffect
  h : FlagEffect
  c : FlagEffect
  deriving DecidableEq, Repr

/-- The table of R37: who writes the flags. -/
def flagEffects : Instr → FlagEffects
  | .incB | .incC | .incD | .incE | .incH | .incL | .incAtHl | .incA => ⟨.computed, .cleared, .computed, .kept⟩
  | .decB | .decC | .decD | .decE | .decH | .decL | .decAtHl | .decA => ⟨.computed, .set, .computed, .kept⟩
  | .rlca | .rrca | .rla | .rra => ⟨.cleared, .cleared, .cleared, .computed⟩
  | .addHlBc | .addHlDe | .addHlHl | .addHlSp => ⟨.kept, .cleared, .computed, .computed⟩
  | .daa => ⟨.computed, .kept, .cleared, .computed⟩
  | .cpl => ⟨.kept, .set, .set, .kept⟩
  | .scf => ⟨.kept, .cleared, .cleared, .set⟩
  | .ccf => ⟨.kept, .cleared, .cleared, .computed⟩
  | .addAB | .addAC | .addAD | .addAE | .addAH | .addAL | .addAAtHl | .addAA | .adcAB | .adcAC | .adcAD
  | .adcAE | .adcAH | .adcAL | .adcAAtHl | .adcAA | .addAD8 _ | .adcAD8 _ => ⟨.computed, .cleared, .computed, .computed⟩
  | .subB | .subC | .subD | .subE | .subH | .subL | .subAtHl | .subA | .sbcAB | .sbcAC | .sbcAD | .sbcAE
  | .sbcAH | .sbcAL | .sbcAAtHl | .sbcAA | .cpB | .cpC | .cpD | .cpE | .cpH | .cpL | .cpAtHl | .cpA | .subD8 _
  | .sbcAD8 _ | .cpD8 _ => ⟨.computed, .set, .computed, .computed⟩
  | .andB | .andC | .andD | .andE | .andH | .andL | .andAtHl | .andA | .andD8 _ => ⟨.computed, .cleared, .set, .cleared⟩
  | .xorB | .xorC | .xorD | .xorE | .xorH | .xorL | .xorAtHl | .xorA | .orB | .orC | .orD | .orE | .orH | .orL
  | .orAtHl | .orA | .xorD8 _ | .orD8 _ => ⟨.computed, .cleared, .cleared, .cleared⟩
  | .addSpR8 _ | .ldHlSpR8 _ => ⟨.cleared, .cleared, .computed, .computed⟩
  | .popAf => ⟨.computed, .computed, .computed, .computed⟩
  | _ => ⟨.kept, .kept, .kept, .kept⟩

/-- Who writes SP (R33, with 0xD9 under `D9_MEANING = reti`, R414). -/
def mayWriteSp : Instr → Bool
  | .ldSpD16 _ | .incSp | .decSp | .retNz | .popBc | .callNzA16 _ | .pushBc | .rst00 | .retZ | .ret
  | .callZA16 _ | .callA16 _ | .rst08 | .retNc | .popDe | .callNcA16 _ | .pushDe | .rst10 | .retC | .callCA16 _
  | .rst18 | .popHl | .pushHl | .rst20 | .addSpR8 _ | .rst28 | .popAf | .pushAf | .rst30 | .ldSpHl | .rst38
  | .diD9 => true
  | _ => false

/-- A data access by its direction and address. -/
inductive Access where
  | read (addr : Word)
  | write (addr : Word)
  deriving DecidableEq, Repr

/-- The direction and address of a recorded access. -/
def BusAccess.access : BusAccess → Access
  | .read a _ => .read a
  | .write a _ => .write a

/-- The table of R78 with the order of R76 and R244: the accesses that the meaning of an instruction makes after the
fetch of its own bytes. The byte that `STOP` discards under `STOP_LENGTH = 2` is counted here. -/
def dataAccesses (i : Instr) (s : State) : List Access :=
  match i with
  | .ldAtBcA => [.write s.bc]
  | .ldAtA16Sp a16 => [.write a16, .write (a16 + 1)]
  | .ldAAtBc => [.read s.bc]
  | .stop => if s.config.stopLength = .two then [.read (s.pc + 1)] else []
  | .ldAtDeA => [.write s.de]
  | .ldAAtDe => [.read s.de]
  | .ldAtHlIncA | .ldAtHlDecA | .ldAtHlD8 _ | .ldAtHlB | .ldAtHlC | .ldAtHlD | .ldAtHlE | .ldAtHlH | .ldAtHlL
  | .ldAtHlA => [.write s.hl]
  | .ldAAtHlInc | .ldAAtHlDec | .ldBAtHl | .ldCAtHl | .ldDAtHl | .ldEAtHl | .ldHAtHl | .ldLAtHl | .ldAAtHl
  | .addAAtHl | .adcAAtHl | .subAtHl | .sbcAAtHl | .andAtHl | .xorAtHl | .orAtHl | .cpAtHl => [.read s.hl]
  | .incAtHl | .decAtHl => [.read s.hl, .write s.hl]
  | .retNz => if s.holds .nz then [.read s.sp, .read (s.sp + 1)] else []
  | .popBc | .ret | .popDe | .popHl | .popAf => [.read s.sp, .read (s.sp + 1)]
  | .callNzA16 _ => if s.holds .nz then [.write (s.sp - 1), .write (s.sp - 2)] else []
  | .pushBc | .rst00 | .callA16 _ | .rst08 | .pushDe | .rst10 | .rst18 | .pushHl | .rst20 | .rst28 | .pushAf
  | .rst30 | .rst38 => [.write (s.sp - 1), .write (s.sp - 2)]
  | .retZ => if s.holds .z then [.read s.sp, .read (s.sp + 1)] else []
  | .callZA16 _ => if s.holds .z then [.write (s.sp - 1), .write (s.sp - 2)] else []
  | .retNc => if s.holds .nc then [.read s.sp, .read (s.sp + 1)] else []
  | .callNcA16 _ => if s.holds .nc then [.write (s.sp - 1), .write (s.sp - 2)] else []
  | .retC => if s.holds .c then [.read s.sp, .read (s.sp + 1)] else []
  | .diD9 => if s.config.d9Meaning = .reti then [.read s.sp, .read (s.sp + 1)] else []
  | .callCA16 _ => if s.holds .c then [.write (s.sp - 1), .write (s.sp - 2)] else []
  | .ldAtIoA8A a8 => [.write (ioAddress a8)]
  | .ldAtIoCA => [.write (ioAddress s.c)]
  | .ldAtA16A a16 => [.write a16]
  | .ldAAtIoA8 a8 => [.read (ioAddress a8)]
  | .ldAAtIoC => [.read (ioAddress s.c)]
  | .ldAAtA16 a16 => [.read a16]
  | _ => []

/-- The addresses an instruction stores to (R78). -/
def stores (i : Instr) (s : State) (a : Word) : Prop := Access.write a ∈ dataAccesses i s

end Sys2Proof.Machine
end

