-- ==== Sys2Proof/Certificates/Slice0/Obligations.lean ====
section
/-! DEFINITION. The statements for the provers. Most rules that give an instruction its effect are marked in the spec as
its own decisions (92_eei_decisions.md): the docstring of a statement names those it rests on (`D<n>`) and the rows of
the assumption log (`log <n>`). `busLog` is the model's own record of the accesses (log 4). -/

section

open Sys2Proof Sys2Proof.Machine

/-! ### Encoding -/

/-- A few words written out from the encodings of the spec decode to their instructions: `LD HL, d16` 21 00 C0,
`LD (FF00+a8), A` E0 80, `ADD A, B` 80, `POP AF` F1, `JR NZ, r8` 20 10, `CALL a16` CD 00 80, `RST 38H` FF, `DAA` 27,
`ADD SP, r8` E8 02, `AND d8` E6 0F, `HALT` 76, with anything after them.
Rests on the spec's decision D1; log 13. -/
def Obligations.SampleWordsDecode : Prop :=
  ∀ t : List Byte,
    decode (0x21 :: 0x00 :: 0xC0 :: t) = .ok (.ldHlD16 0xC000, t) ∧
    decode (0xE0 :: 0x80 :: t) = .ok (.ldAtIoA8A 0x80, t) ∧
    decode (0x80 :: t) = .ok (.addAB, t) ∧
    decode (0xF1 :: t) = .ok (.popAf, t) ∧
    decode (0x20 :: 0x10 :: t) = .ok (.jrNzR8 0x10, t) ∧
    decode (0xCD :: 0x00 :: 0x80 :: t) = .ok (.callA16 0x8000, t) ∧
    decode (0xFF :: t) = .ok (.rst38, t) ∧
    decode (0x27 :: t) = .ok (.daa, t) ∧
    decode (0xE8 :: 0x02 :: t) = .ok (.addSpR8 0x02, t) ∧
    decode (0xE6 :: 0x0F :: t) = .ok (.andD8 0x0F, t) ∧
    decode (0x76 :: t) = .ok (.halt, t)

/-- Decode and encode agree in both directions (R100, R113, R122): bytes decode to an instruction with a rest
exactly when they are the encoding of that instruction followed by the rest.
Rests on the spec's decisions D1, D9, D10; log 13, 15. -/
def Obligations.DecodeIffEncode : Prop :=
  ∀ (bytes rest : List Byte) (i : Instr), decode bytes = .ok (i, rest) ↔ bytes = encode i ++ rest

/-- Quadrants x = 1 and x = 2 of the opcode map (R115, R116) and the column z = 6 of quadrant x = 3, with the tables of
R105 and R108. -/
def Obligations.QuadrantsDecode : Prop :=
  ∀ (y z : Fin 8) (v : Byte) (rest : List Byte),
    decode (BitVec.ofNat 8 (64 + 8 * y + z) :: rest) =
      .ok (Instr.ldOrHalt (operandTable y) (operandTable z), rest) ∧
    decode (BitVec.ofNat 8 (128 + 8 * y + z) :: rest) = .ok (Instr.alu (aluTable y) (operandTable z), rest) ∧
    decode (BitVec.ofNat 8 (192 + 8 * y + 6) :: v :: rest) = .ok (Instr.alu (aluTable y) (.d8 v), rest)

/-- The regular columns of the quadrants x = 0 and x = 3 (R114, R117) with the tables of R105, R106, R107 and R109.
Rests on the spec's decision D1; log 13. -/
def Obligations.RegularColumnsDecode : Prop :=
  ∀ (p : Fin 4) (y : Fin 8) (r : Reg8) (lo hi v : Byte) (rest : List Byte),
    let w : Word := BitVec.ofNat 16 (256 * hi.toNat + lo.toNat)
    decode (BitVec.ofNat 8 (16 * p + 1) :: lo :: hi :: rest) = .ok (Instr.ldPairD16 (pairTable p) w, rest) ∧
    decode (BitVec.ofNat 8 (16 * p + 3) :: rest) = .ok (Instr.incPair (pairTable p), rest) ∧
    decode (BitVec.ofNat 8 (16 * p + 9) :: rest) = .ok (Instr.addHlPair (pairTable p), rest) ∧
    decode (BitVec.ofNat 8 (16 * p + 11) :: rest) = .ok (Instr.decPair (pairTable p), rest) ∧
    (operandTable y = .reg r →
      decode (BitVec.ofNat 8 (8 * y + 4) :: rest) = .ok (Instr.incReg8 r, rest) ∧
      decode (BitVec.ofNat 8 (8 * y + 5) :: rest) = .ok (Instr.decReg8 r, rest) ∧
      decode (BitVec.ofNat 8 (8 * y + 6) :: v :: rest) = .ok (Instr.ldRegD8 r v, rest)) ∧
    decode (BitVec.ofNat 8 (32 + 8 * p) :: v :: rest) = .ok (Instr.jrCond (condTable p) v, rest) ∧
    decode (BitVec.ofNat 8 (192 + 8 * p) :: rest) = .ok (Instr.retCond (condTable p), rest) ∧
    decode (BitVec.ofNat 8 (194 + 8 * p) :: lo :: hi :: rest) = .ok (Instr.jpCond (condTable p) w, rest) ∧
    decode (BitVec.ofNat 8 (196 + 8 * p) :: lo :: hi :: rest) = .ok (Instr.callCond (condTable p) w, rest) ∧
    decode (BitVec.ofNat 8 (193 + 16 * p) :: rest) = .ok (Instr.popStack (stackTable p), rest) ∧
    decode (BitVec.ofNat 8 (197 + 16 * p) :: rest) = .ok (Instr.pushStack (stackTable p), rest) ∧
    decode (BitVec.ofNat 8 (199 + 8 * y) :: rest) = .ok (Instr.rst y, rest)

/-- The first bytes that start no instruction of the source table are the eleven unlisted ones and 0xCB
(R118, R119).
Rests on the spec's decisions D9, D10; log 13, 15. -/
def Obligations.NoInstructionBytes : Prop :=
  ∀ (op : Byte) (bytes rest : List Byte) (i : Instr), decode (op :: bytes) = .ok (i, rest) →
    ((i.unlisted = true ↔
        op ∈ [0xD3, 0xDB, 0xDD, 0xE3, 0xE4, 0xEB, 0xEC, 0xED, 0xF4, 0xFC, 0xFD]) ∧
      (i.excludedPrefix = true ↔ op = 0xCB) ∧
      (i.wellFormed = false ↔
        op ∈ [0xCB, 0xD3, 0xDB, 0xDD, 0xE3, 0xE4, 0xEB, 0xEC, 0xED, 0xF4, 0xFC, 0xFD]))

/-- The length of an instruction follows from its first byte alone (R100): the 25 opcodes of length 2 and the 17 of
length 3 are these, every other one with a row has length 1 (202 of 244), the bytes after the instruction are left as
they stand, with no padding, and what is fetched at pc is decoded from exactly so many bytes, read from pc on. -/
def Obligations.InstructionLengths : Prop :=
  let two : List Byte := [0x06, 0x0E, 0x16, 0x18, 0x1E, 0x20, 0x26, 0x28, 0x2E, 0x30, 0x36, 0x38, 0x3E, 0xC6, 0xCE,
    0xD6, 0xDE, 0xE0, 0xE6, 0xE8, 0xEE, 0xF0, 0xF6, 0xF8, 0xFE]
  let three : List Byte := [0x01, 0x08, 0x11, 0x21, 0x31, 0xC2, 0xC3, 0xC4, 0xCA, 0xCC, 0xCD, 0xD2, 0xD4, 0xDA, 0xDC,
    0xEA, 0xFA]
  let noRow : List Byte := [0xCB, 0xD3, 0xDB, 0xDD, 0xE3, 0xE4, 0xEB, 0xEC, 0xED, 0xF4, 0xFC, 0xFD]
  let len : Byte → Nat := fun op => if op ∈ three then 3 else if op ∈ two then 2 else 1
  (two.length = 25 ∧ three.length = 17 ∧
    ((List.range 256).filter (fun n => BitVec.ofNat 8 n ∉ noRow)).length = 244 ∧
    ((List.range 256).filter (fun n => BitVec.ofNat 8 n ∉ noRow ∧ len (BitVec.ofNat 8 n) = 1)).length = 202) ∧
  (∀ (op : Byte) (bytes : List Byte), op ∉ noRow →
    ((∃ i rest, decode (op :: bytes) = .ok (i, rest)) ↔ len op ≤ bytes.length + 1) ∧
      ∀ i rest, decode (op :: bytes) = .ok (i, rest) →
        rest = (op :: bytes).drop (len op) ∧ (encode i).length = len op ∧ i.wellFormed = true) ∧
  ∀ s : State, s.peek s.pc ∉ noRow →
    decode (s.readBytes s.pc (len (s.peek s.pc))).1 = .ok (s.fetch.1, [])

/-! ### The step -/

/-- A step runs the decoded instruction (R91, R510): in a step that is awake and takes no interrupt, where the bytes
read from pc on, with a pending enable already made, decode to i, the answer is the meaning of i at the state after
these reads. Before the stages the platform has delivered the step's input (the model's form of it: log 6).
Rests on the spec's decisions D13, D14, D17, D25, D29; log 3, 4, 6, 13. -/
def Obligations.StepRunsDecodedInstruction : Prop :=
  ∀ (s : State) (i : Instr) (n : Nat),
    let p := s.takeInput.2
    let q := p.ready.readBytes p.pc n
    p.awake s.takeInput.1 → ¬ p.interruptDue → decode q.1 = .ok (i, []) → step s = exec i q.2

/-- A step of a machine that is halted with nothing requested, or stopped with no button pressed, changes nothing
but what the platform has delivered (R510 stages 1 and 2).
Rests on the spec's decisions D12, D13, D15; log 6, 9, 13. -/
def Obligations.WaitingStepChangesNothing : Prop :=
  ∀ s : State, ¬ s.takeInput.2.awake s.takeInput.1 → step s = .next s.takeInput.2

/-- The interrupt interface of the instances outside the Game Boy (R506): under `NoInterrupts` nothing is ever
requested, a running machine never takes an interrupt and a halted one never wakes; under `external` a request is
there exactly while one is held, and the first one held is served and is the only one acknowledged (log 5); under
`platform` the platform's own function answers.
Rests on the spec's decisions D13, D15; log 3, 5, 6, 13. -/
def Obligations.InterruptInstances : Prop :=
  ∀ s : State,
    (s.irqSelect.isSome = s.irqRequested) ∧
    (s.config.irq = .noInterrupts →
      s.irqRequested = false ∧ s.irqSelect = none ∧ ¬ s.takeInput.2.interruptDue ∧
      (s.mode = .halted → step s = .next { s with
        inputs := s.inputs.tail
        bus := (s.inputs.head?.bind PlatformInput.bus).getD s.bus })) ∧
    (s.config.irq = .external →
      (s.irqRequested = true ↔ s.irqRequests ≠ []) ∧
      ∀ v rest, s.irqRequests = v :: rest → s.irqSelect = some (v, { s with irqRequests := rest })) ∧
    (s.config.irq = .platform →
      (s.irqRequested = true ↔ Config.irqOffer s.bus ≠ none) ∧
      ∀ v b, Config.irqOffer s.bus = some (v, b) → s.irqSelect = some (v, { s with bus := b }))

/-- What the platform delivers to a step (R506, R508, R516; the model's form of it: log 6): `ButtonPress` as the first
input left says it, and false where none is left; exactly that input is used up. It may replace the state of the
platform's own bus, under `external` the requests held, and under the Game Boy instances it sets bits of IF; nothing
else changes.
Rests on the spec's decisions D12, D13, D23; log 3, 5, 6, 7, 13, 18. -/
def Obligations.PlatformInputDelivers : Prop :=
  ∀ s : State,
    (s.inputs = [] → s.takeInput = (false, s)) ∧
    ∀ x rest, s.inputs = x :: rest →
      let p := s.takeInput.2
      let q := { s with inputs := rest, bus := x.bus.getD s.bus }
      s.takeInput.1 = x.buttonPress ∧
      (s.config.irq = .noInterrupts ∨ s.config.irq = .platform → p = q) ∧
      (s.config.irq = .external → p = { q with irqRequests := x.requests.getD s.irqRequests }) ∧
      (s.config.irq = .gameBoy ∨ s.config.irq = .gameBoyFlat →
        p = { q with mem := p.mem } ∧ (∀ b, b ≠ 0xFF0F → p.peek b = q.peek b) ∧
        ∀ j : Nat, (p.peek 0xFF0F).getLsbD j = ((s.peek 0xFF0F).getLsbD j || x.events.getLsbD j))

/-- Taking an interrupt (R510 stage 3, R511): the source is selected and acknowledged, then pc is written high byte
first, IME and ei_pending are cleared, pc is the vector and the mode Running. No other register changes, and of memory
the two bytes pushed alone, after the platform's acknowledge.
Rests on the spec's decisions D1, D6, D13, D17, D25; log 3, 4, 5, 6, 7, 13, 17. -/
def Obligations.InterruptEntry : Prop :=
  ∀ s : State,
    let p := s.takeInput.2
    p.awake s.takeInput.1 → p.interruptDue →
    ∃ vector p' t, p.irqSelect = some (vector, p') ∧ step s = .next t ∧
      p' = { p with mem := p'.mem, bus := p'.bus, irqRequests := p'.irqRequests } ∧
      t = { p' with
        pc := vector
        sp := p.sp - 2
        ime := false
        eiPending := false
        mode := .running
        mem := t.mem
        bus := ((p'.memWrite (p.sp - 1) (highByte p.pc)).memWrite (p.sp - 2) (lowByte p.pc)).bus
        busLog := p.busLog.map (fun l =>
          l ++ [.write (p.sp - 1) (highByte p.pc), .write (p.sp - 2) (lowByte p.pc)]) } ∧
      StoredWord p' t (p.sp - 2) p.pc

/-- The Game Boy instance of the interface (R507, R509 (b)): a request is a bit set in both IE and IF, the lowest one
is served at 0x0040 + 8 i, and its bit alone is cleared in IF. Under `gameBoy` bits 7 to 5 of IF read as 1.
Rests on the spec's decisions D13, D25; log 3, 7, 13. -/
def Obligations.GameBoySelect : Prop :=
  ∀ s : State, s.config.irq = .gameBoy ∨ s.config.irq = .gameBoyFlat →
    (s.irqRequested = true ↔ s.peek 0xFFFF &&& s.peek 0xFF0F &&& 0x1F ≠ 0) ∧
    (s.config.irq = .gameBoy → s.peek 0xFF0F &&& 0xE0 = 0xE0) ∧
    ∀ i : Fin 5,
      (s.peek 0xFFFF).getLsbD i = true → (s.peek 0xFF0F).getLsbD i = true →
      (∀ j : Fin 5, j < i → ((s.peek 0xFFFF).getLsbD j && (s.peek 0xFF0F).getLsbD j) = false) →
      ∃ s', s.irqSelect = some (BitVec.ofNat 16 (0x40 + 8 * i), s') ∧ s' = { s with mem := s'.mem } ∧
        (∀ b, b ≠ 0xFF0F → s'.peek b = s.peek b) ∧
        ∀ j : Nat, (s'.peek 0xFF0F).getLsbD j = (decide (j ≠ i) && (s.peek 0xFF0F).getLsbD j)

/-- A device event of the Game Boy instance sets its bit of IF and changes nothing else (R507, R508).
Rests on the spec's decision D13; log 3, 6, 7, 13. -/
def Obligations.DeviceEventSetsIf : Prop :=
  ∀ (s : State) (x : PlatformInput), s.config.irq = .gameBoy ∨ s.config.irq = .gameBoyFlat →
    s.applyInput x = { s with mem := (s.applyInput x).mem } ∧
    (∀ b, b ≠ 0xFF0F → (s.applyInput x).peek b = s.peek b) ∧
    ∀ j : Nat, ((s.applyInput x).peek 0xFF0F).getLsbD j = ((s.peek 0xFF0F).getLsbD j || x.events.getLsbD j)

/-- The delay of `EI` (R415, R510, R566), whatever requests wait: after `EI` the instruction that follows executes, with
IME = 1 and ei_pending = 0 and no interrupt taken before it; only the step after that may take one, with the address
that this instruction left in pc as return address. `EI` then `DI` never enables.
Rests on the spec's decisions D1, D6, D13, D14, D17, D25; log 3, 4, 5, 6, 7, 13. -/
def Obligations.EiDelaysOneInstruction : Prop :=
  ∀ s : State, s.inputs = [] → s.mode = .running → s.ime = false → s.eiPending = false → s.peek s.pc = 0xFB →
    ∃ t, step s = .next t ∧ t = { (s.memRead s.pc).2 with eiPending := true, pc := s.pc + 1 } ∧
      (∀ n i, let q := { t with ime := true, eiPending := false }.readBytes t.pc n
        decode q.1 = .ok (i, []) →
          step t = exec i q.2 ∧
          (i = .diF3 ∨ (i = .diD9 ∧ s.config.d9Meaning = .di) →
            ∃ u, step t = .next u ∧ u.ime = false ∧ u.eiPending = false ∧ ¬ u.interruptDue)) ∧
      ∀ u, step t = .next u → u.awake false → u.interruptDue →
        ∃ v p' w, u.irqSelect = some (v, p') ∧ step u = .next w ∧ w.ime = false ∧ w.eiPending = false ∧ w.pc = v ∧
          w.sp = u.sp - 2 ∧ StoredWord p' w (u.sp - 2) u.pc

/-- A handler that is `EI` then `RET` (R513): after the entry, two steps bring back the interrupted pc, SP and
registers, with IME = 1. The premises: the stack reads back what is written to it, and the two bytes at the vector.
Rests on the spec's decisions D6, D14, D17, D26; log 3, 5, 7, 13. -/
def Obligations.HandlerReturnsByEiRet : Prop :=
  ∀ s t : State, s.inputs = [] → s.stackIsPlain → s.awake false → s.interruptDue → step s = .next t →
    t.onPlatform t.pc = false → t.onPlatform (t.pc + 1) = false → t.peek t.pc = 0xFB → t.peek (t.pc + 1) = 0xC9 →
    ∃ u v, step t = .next u ∧ u.ime = false ∧ step u = .next v ∧ v.pc = s.pc ∧ v.sp = s.sp ∧ v.ime = true ∧
      v.eiPending = false ∧ v.mode = .running ∧ v.f = s.f ∧ (∀ r, v.reg r = s.reg r) ∧ v.bus = t.bus ∧
      ∀ b, v.peek b = t.peek b

/-- A handler that is the byte 0xD9 under `D9_MEANING = reti` (R414, R513): after the entry, one step brings back the
interrupted pc, SP and registers, with IME = 1. The premises are those of `EI` then `RET`, with the one byte.
Rests on the spec's decisions D6, D11, D17, D26; log 3, 7, 8, 13. -/
def Obligations.HandlerReturnsByReti : Prop :=
  ∀ s t : State, s.inputs = [] → s.stackIsPlain → s.config.d9Meaning = .reti → s.awake false → s.interruptDue →
    step s = .next t → t.onPlatform t.pc = false → t.peek t.pc = 0xD9 →
    ∃ u, step t = .next u ∧ u.pc = s.pc ∧ u.sp = s.sp ∧ u.ime = true ∧ u.eiPending = false ∧ u.mode = .running ∧
      u.f = s.f ∧ (∀ r, u.reg r = s.reg r) ∧ u.bus = t.bus ∧ ∀ b, u.peek b = t.peek b

/-- When a step has no next state (R501, R502, R503, R509 (d)): exactly where an instruction is executed and its
first byte, as it is read, is unlisted, or is 0xCB, or is `HALT` with IME = 0 and a request there.
Rests on the spec's decisions D9, D10, D15, D17; log 3, 4, 10, 11, 13. -/
def Obligations.StepStopsExactly : Prop :=
  ∀ s : State,
    let p := s.takeInput.2
    let runs := p.awake s.takeInput.1 ∧ ¬ p.interruptDue
    let r := p.ready.memRead p.pc
    (∀ f, step s = .fault f ↔ runs ∧
      ((∃ i, (r.1, i) ∈ unlistedRows ∧ f = .illegalOpcode r.1 p.pc) ∨
        (r.1 = 0x76 ∧ p.ime = false ∧ p.eiPending = false ∧ r.2.irqRequested = true ∧ f = .haltBug p.pc))) ∧
    (∀ x, step s = .refused x ↔ runs ∧ r.1 = 0xCB ∧ x = .cbPrefix p.pc)

/-- The first step from any state that `ResetState` may be takes no interrupt, whatever the platform delivers
(R560, R563): it runs the instruction at pc.
Rests on the spec's decisions D11, D13, D16; log 6, 13. -/
def Obligations.FirstStepTakesNoInterrupt : Prop :=
  ∀ s : State, s.isResetState →
    step s = exec (s.takeInput.2.fetch).1 (s.takeInput.2.fetch).2 ∧
      ∀ t, step s = .next t → t.ime = true → s.takeInput.2.peek s.pc = 0xD9 ∧ s.config.d9Meaning = .reti

/-! ### Invariants -/

/-- Every step keeps the invariant: bits 3 to 0 of F are 0 (R36, R45), and memory keeps its canonical form.
Rests on the spec's decision D3; log 2, 13. -/
def Obligations.StepKeepsInvariant : Prop := ∀ s t : State, s.inv → step s = .next t → t.inv

/-- The reset state meets the constraints that R560 sets on `ResetState`, and the invariant; its other registers hold
the values of R561, and IF and IE those of R507 under every instance of the interface (the model's choice, log 1).
Rests on the spec's decisions D2, D16; log 1, 7, 13. -/
def Obligations.ResetMeetsInvariant : Prop :=
  (State.reset.isResetState ∧ State.reset.inv ∧ State.reset.af = 0x01B0 ∧ State.reset.bc = 0x0013 ∧
    State.reset.de = 0x00D8 ∧ State.reset.hl = 0x014D ∧ State.reset.sp = 0xFFFE ∧ State.reset.pc = 0x0100) ∧
  ∀ irq, let s := { State.reset with config := { Config.standard with irq := irq } }
    s.isResetState ∧ s.inv ∧ s.peek 0xFF0F = 0xE1 ∧ s.peek 0xFFFF = 0x00

/-! ### The bus -/

/-- The instances of the parameter `Bus` (R72, R73, R80): an access to a location of the platform's own bus is answered
by the platform's own functions, a read may change its state, and nothing is assumed of a write; away from it a read
changes nothing and a write replaces one byte. IE and IF of the Game Boy instances are answered by the interface. An
access changes no register.
Rests on the spec's decision D17; log 3, 4, 7, 13. -/
def Obligations.BusInstances : Prop :=
  ∀ (s : State) (a : Word) (v : Byte),
    let r := s.memRead a
    let t := s.memWrite a v
    (s.onPlatform a = true ↔ s.config.bus = .platform ∧
      ¬ ((s.config.irq = .gameBoy ∨ s.config.irq = .gameBoyFlat) ∧ (a = 0xFF0F ∨ a = 0xFFFF))) ∧
    r.1 = s.peek a ∧
    r.2 = { s with bus := r.2.bus, busLog := s.busLog.map (fun l => l ++ [.read a (s.peek a)]) } ∧
    t = { s with mem := t.mem, bus := t.bus, busLog := s.busLog.map (fun l => l ++ [.write a v]) } ∧
    (s.onPlatform a = true →
      (r.1, r.2.bus) = Config.busRead s.bus a ∧ t.bus = Config.busWrite s.bus a v ∧ t.mem = s.mem) ∧
    (s.onPlatform a = false → r.2.bus = s.bus ∧ t.bus = s.bus) ∧
    StoredNothing s r.2 ∧ StoredByte s t a v

/-! ### 8-bit loads -/

/-- `LD r, r'` and `LD r, d8`, all 49 and 7 (R130, R154 to R216, R136 to R143): the destination takes the value, pc
advances by the length, and nothing else changes.
Rests on the spec's decision D4; log 13. -/
def Obligations.LoadRegister : Prop :=
  ∀ (dst src : Reg8) (v : Byte) (s : State),
    (∃ t, exec (Instr.ldRegReg dst src) s = .next t ∧
      (∀ r, t.reg r = if r = dst then s.reg src else s.reg r) ∧
      t = { s with a := t.a, b := t.b, c := t.c, d := t.d, e := t.e, h := t.h, l := t.l, pc := s.pc + 1 }) ∧
    (∃ t, exec (Instr.ldRegD8 dst v) s = .next t ∧
      (∀ r, t.reg r = if r = dst then v else s.reg r) ∧
      t = { s with a := t.a, b := t.b, c := t.c, d := t.d, e := t.e, h := t.h, l := t.l, pc := s.pc + 2 })

/-- `NOP` and the seven self-loads change pc alone (R120, R410).
Rests on the spec's decision D4; log 13. -/
def Obligations.SelfLoadsAreNops : Prop :=
  ∀ (r : Reg8) (s : State),
    exec .nop s = .next { s with pc := s.pc + 1 } ∧ exec (Instr.ldRegReg r r) s = exec .nop s

/-- `LD r, (HL)` (7), `LD A, (BC)`, `LD A, (DE)`, `LD A, (a16)`, `LD A, (FF00+a8)`, `LD A, (FF00+C)` (R130, R74): one
read, at the address as the registers stand before.
Rests on the spec's decisions D4, D17, D29; log 3, 4, 13. -/
def Obligations.LoadFromMemory : Prop :=
  ∀ (dst : Reg8) (a8 : Byte) (a16 : Word) (s : State),
    let io : Byte → Word := fun o => BitVec.ofNat 16 (0xFF00 + o.toNat)
    let loads := fun (i : Instr) (dst : Reg8) (addr : Word) (len : Word) =>
      ∃ t, exec i s = .next t ∧ (∀ r, t.reg r = if r = dst then (s.memRead addr).1 else s.reg r) ∧
        StoredNothing s t ∧
        t = { s with
          a := t.a, b := t.b, c := t.c, d := t.d, e := t.e, h := t.h, l := t.l, pc := s.pc + len
          bus := (s.memRead addr).2.bus
          busLog := s.busLog.map (fun l => l ++ [.read addr (s.memRead addr).1]) }
    loads (Instr.ldRegAtHl dst) dst s.hl 1 ∧ loads .ldAAtBc .a s.bc 1 ∧ loads .ldAAtDe .a s.de 1 ∧
      loads (.ldAAtA16 a16) .a a16 3 ∧ loads (.ldAAtIoA8 a8) .a (io a8) 2 ∧ loads .ldAAtIoC .a (io s.c) 1

/-- `LD (HL), r` (7), `LD (HL), d8`, `LD (BC), A`, `LD (DE), A`, `LD (a16), A`, `LD (FF00+a8), A`, `LD (FF00+C), A`
(R130, R73, R74): one write, at the address as the registers stand before; no register but pc changes, and no other
byte of memory.
Rests on the spec's decisions D4, D17, D29; log 3, 4, 7, 13. -/
def Obligations.StoreToMemory : Prop :=
  ∀ (src : Reg8) (v a8 : Byte) (a16 : Word) (s : State),
    let io : Byte → Word := fun o => BitVec.ofNat 16 (0xFF00 + o.toNat)
    let writes := fun (i : Instr) (addr : Word) (v : Byte) (len : Word) =>
      ∃ t, exec i s = .next t ∧ StoredByte s t addr v ∧
        t = { s with
          pc := s.pc + len
          mem := t.mem
          bus := (s.memWrite addr v).bus
          busLog := s.busLog.map (fun l => l ++ [.write addr v]) }
    writes (Instr.ldAtHlReg src) s.hl (s.reg src) 1 ∧ writes (.ldAtHlD8 v) s.hl v 2 ∧ writes .ldAtBcA s.bc s.a 1 ∧
      writes .ldAtDeA s.de s.a 1 ∧ writes (.ldAtA16A a16) a16 s.a 3 ∧ writes (.ldAtIoA8A a8) (io a8) s.a 2 ∧
      writes .ldAtIoCA (io s.c) s.a 1

/-- The effective address of high-page addressing (R74, R112): the four instructions of the I/O page make their one
access at 0xFF00 plus the unsigned offset, which never leaves the page, and the other addressing modes reach the same
location where the pair or the immediate holds that address. -/
def Obligations.IoPageEffectiveAddress : Prop :=
  ∀ (o : Byte) (rest : List Byte) (s : State),
    let addr : Word := BitVec.ofNat 16 (0xFF00 + o.toNat)
    let sc := { s with c := o }
    let reads := fun (i : Instr) (s : State) =>
      ∃ t, exec i s = .next t ∧ t.a = (s.memRead addr).1 ∧ t.bus = (s.memRead addr).2.bus ∧ t.mem = s.mem
    let writes := fun (i : Instr) (s : State) =>
      ∃ t, exec i s = .next t ∧ t.bus = (s.memWrite addr s.a).bus ∧ t.mem = (s.memWrite addr s.a).mem
    decode (0xE0 :: o :: rest) = .ok (.ldAtIoA8A o, rest) ∧ decode (0xF0 :: o :: rest) = .ok (.ldAAtIoA8 o, rest) ∧
      decode (0xE2 :: rest) = .ok (.ldAtIoCA, rest) ∧ decode (0xF2 :: rest) = .ok (.ldAAtIoC, rest) ∧
      addr.toNat = 0xFF00 + o.toNat ∧
      writes (.ldAtIoA8A o) s ∧ reads (.ldAAtIoA8 o) s ∧ writes .ldAtIoCA sc ∧ reads .ldAAtIoC sc ∧
      writes (.ldAtA16A addr) s ∧ reads (.ldAAtA16 addr) s ∧
      (s.bc = addr → writes .ldAtBcA s ∧ reads .ldAAtBc s) ∧
      (s.de = addr → writes .ldAtDeA s ∧ reads .ldAAtDe s) ∧
      (s.hl = addr → writes .ldAtHlA s ∧ reads .ldAAtHl s ∧ writes .ldAtHlIncA s ∧ reads .ldAAtHlInc s ∧
        writes .ldAtHlDecA s ∧ reads .ldAAtHlDec s)

/-- High-page addressing (R74, R112): the four instructions of the I/O page access 0xFF00 plus the unsigned offset,
which never leaves the page, and the other addressing modes reach the same locations: what is written is kept there
and every other byte is unchanged, under FlatRAM but for the high bits of IF under the instance `gameBoy`.
Rests on the spec's decisions D2, D4, D17, D29; log 3, 7, 13. -/
def Obligations.IoPageAccess : Prop :=
  ∀ (o : Byte) (rest : List Byte) (s : State),
    let addr : Word := BitVec.ofNat 16 (0xFF00 + o.toNat)
    let sc := { s with c := o }
    let loads := fun (i : Instr) (s : State) => ∃ t, exec i s = .next t ∧ t.a = s.peek addr
    let writes := fun (i : Instr) (s : State) => ∃ t, exec i s = .next t ∧ StoredByte s t addr s.a
    decode (0xE0 :: o :: rest) = .ok (.ldAtIoA8A o, rest) ∧ decode (0xF0 :: o :: rest) = .ok (.ldAAtIoA8 o, rest) ∧
      decode (0xE2 :: rest) = .ok (.ldAtIoCA, rest) ∧ decode (0xF2 :: rest) = .ok (.ldAAtIoC, rest) ∧
      addr.toNat = 0xFF00 + o.toNat ∧ 0xFF00 ≤ addr.toNat ∧
      writes (.ldAtIoA8A o) s ∧ loads (.ldAAtIoA8 o) s ∧ writes .ldAtIoCA sc ∧ loads .ldAAtIoC sc ∧
      writes (.ldAtA16A addr) s ∧ loads (.ldAAtA16 addr) s ∧
      writes .ldAtBcA { s with b := 0xFF, c := o } ∧ loads .ldAAtBc { s with b := 0xFF, c := o } ∧
      writes .ldAtDeA { s with d := 0xFF, e := o } ∧ loads .ldAAtDe { s with d := 0xFF, e := o } ∧
      writes .ldAtHlA { s with h := 0xFF, l := o } ∧ loads .ldAAtHl { s with h := 0xFF, l := o }

/-- `LD A, (HL+)`, `LD A, (HL-)`, `LD (HL+), A`, `LD (HL-), A` (R131, R144 to R147): the access is at HL as it was, and
then HL moves by one modulo 2^16.
Rests on the spec's decisions D4, D8, D17, D29; log 3, 4, 7, 13. -/
def Obligations.LoadStoreStepHl : Prop :=
  ∀ s : State,
    let loads := fun (i : Instr) (hl : Nat) =>
      ∃ t, exec i s = .next t ∧ t.hl.toNat = hl % 65536 ∧ StoredNothing s t ∧
        t = { s with
          a := (s.memRead s.hl).1, h := t.h, l := t.l, pc := s.pc + 1
          bus := (s.memRead s.hl).2.bus
          busLog := s.busLog.map (fun l => l ++ [.read s.hl (s.memRead s.hl).1]) }
    let writes := fun (i : Instr) (hl : Nat) =>
      ∃ t, exec i s = .next t ∧ StoredByte s t s.hl s.a ∧ t.hl.toNat = hl % 65536 ∧
        t = { s with
          h := t.h, l := t.l, pc := s.pc + 1
          mem := t.mem
          bus := (s.memWrite s.hl s.a).bus
          busLog := s.busLog.map (fun l => l ++ [.write s.hl s.a]) }
    loads .ldAAtHlInc (s.hl.toNat + 1) ∧ loads .ldAAtHlDec (s.hl.toNat + 65535) ∧
      writes .ldAtHlIncA (s.hl.toNat + 1) ∧ writes .ldAtHlDecA (s.hl.toNat + 65535)

/-! ### 16-bit loads and the stack -/

/-- `LD rr, d16` (4) and `LD SP, HL` (R222 to R225, R236): the pair takes the value, its first-named register the
high byte (R32), and nothing else but pc changes.
Rests on the spec's decisions D2, D4; log 13. -/
def Obligations.LoadPair : Prop :=
  ∀ (v : Word) (s : State),
    let hi : Byte := BitVec.ofNat 8 (v.toNat / 256)
    let lo : Byte := BitVec.ofNat 8 (v.toNat % 256)
    exec (Instr.ldPairD16 .bc v) s = .next { s with b := hi, c := lo, pc := s.pc + 3 } ∧
    exec (Instr.ldPairD16 .de v) s = .next { s with d := hi, e := lo, pc := s.pc + 3 } ∧
    exec (Instr.ldPairD16 .hl v) s = .next { s with h := hi, l := lo, pc := s.pc + 3 } ∧
    exec (Instr.ldPairD16 .sp v) s = .next { s with sp := v, pc := s.pc + 3 } ∧
    exec .ldSpHl s = .next { s with sp := BitVec.ofNat 16 (256 * s.h.toNat + s.l.toNat), pc := s.pc + 1 }

/-- `LD (a16), SP` (R226): the low byte of SP to a16, then the high byte to a16 + 1 modulo 2^16; SP and every other
register but pc unchanged, and every other byte of memory.
Rests on the spec's decisions D1, D8, D17, D29; log 3, 4, 7, 13. -/
def Obligations.StoreStackPointer : Prop :=
  ∀ (a16 : Word) (s : State),
    ∃ t, exec (.ldAtA16Sp a16) s = .next t ∧ StoredWord s t a16 s.sp ∧
      t = { s with
        pc := s.pc + 3
        mem := t.mem
        bus := ((s.memWrite a16 (lowByte s.sp)).memWrite (a16 + 1) (highByte s.sp)).bus
        busLog := s.busLog.map (fun l =>
          l ++ [.write a16 (lowByte s.sp), .write (a16 + 1) (highByte s.sp)]) }

/-- `PUSH rr` (4) (R221, R228 to R234): the pair is in memory at the new SP, low byte first, written high byte first;
SP is 2 lower modulo 2^16; no other register but pc changes, and no other byte of memory.
Rests on the spec's decisions D1, D6, D8, D17; log 3, 4, 7, 13. -/
def Obligations.PushPair : Prop :=
  ∀ (r : StackReg) (s : State),
    ∃ t, exec (Instr.pushStack r) s = .next t ∧ StoredWord s t (s.sp - 2) (s.stackPair r) ∧
      t = { s with
        pc := s.pc + 1
        sp := s.sp - 2
        mem := t.mem
        bus := ((s.memWrite (s.sp - 1) (highByte (s.stackPair r))).memWrite (s.sp - 2) (lowByte (s.stackPair r))).bus
        busLog := s.busLog.map (fun l =>
          l ++ [.write (s.sp - 1) (highByte (s.stackPair r)), .write (s.sp - 2) (lowByte (s.stackPair r))]) }

/-- `POP rr` (4) (R221, R227 to R233): the pair takes the 16-bit value at SP, but the low nibble of F is 0; SP is 2
higher modulo 2^16; memory and every other register but pc are unchanged.
Rests on the spec's decisions D1, D2, D3, D6, D8, D17; log 3, 4, 13. -/
def Obligations.PopPair : Prop :=
  ∀ (r : StackReg) (s : State),
    let w := s.readWord s.sp
    ∃ t, exec (Instr.popStack r) s = .next t ∧
      (∀ q, t.stackPair q =
        if q = r then (if q = .af then w.1 &&& 0xFFF0 else w.1) else s.stackPair q) ∧
      StoredNothing s t ∧
      t = { s with
        a := t.a, f := t.f, b := t.b, c := t.c, d := t.d, e := t.e, h := t.h, l := t.l
        pc := s.pc + 1
        sp := s.sp + 2
        bus := w.2.bus
        busLog := w.2.busLog }

/-- A pop is the exact inverse of a push (R221; R233 for AF): the registers and SP are as before. The premises: the
stack reads back what is written to it, and the low nibble of F is 0.
Rests on the spec's decisions D3, D6, D17; log 3, 4, 7, 13. -/
def Obligations.PopInvertsPush : Prop :=
  ∀ (r : StackReg) (s : State), s.stackIsPlain → s.f &&& 0x0F = 0 →
    ∃ t u, exec (Instr.pushStack r) s = .next t ∧ exec (Instr.popStack r) t = .next u ∧
      u = { s with pc := s.pc + 2, mem := t.mem, busLog := u.busLog }

/-- `ADD SP, r8` and `LD HL, SP+r8` (R345, R358, R235): the sum with the signed operand modulo 2^16; Z and N are 0, H
and C are the carries out of bits 3 and 7 of the unsigned addition of the low byte of SP and the operand byte.
Rests on the spec's decisions D4, D8, D31; log 13. -/
def Obligations.AddToStackPointer : Prop :=
  ∀ (e : Byte) (s : State),
    let sum : Word := BitVec.ofInt 16 ((s.sp.toNat : Int) + e.toInt)
    let flags := fun t : State =>
      t.flagZ = false ∧ t.flagN = false ∧ t.flagH = decide (16 ≤ s.sp.toNat % 16 + e.toNat % 16) ∧
        t.flagC = decide (256 ≤ s.sp.toNat % 256 + e.toNat) ∧ t.f &&& 0x0F = 0
    (∃ t, exec (.addSpR8 e) s = .next t ∧ flags t ∧ t = { s with sp := sum, f := t.f, pc := s.pc + 2 }) ∧
    (∃ t, exec (.ldHlSpR8 e) s = .next t ∧ flags t ∧ t.hl = sum ∧
      t = { s with h := t.h, l := t.l, f := t.f, pc := s.pc + 2 })

/-! ### 8-bit arithmetic and logic -/

/-- ADD and ADC on every operand form (R240, R244, R266 to R281, R298, R299).
Rests on the spec's decisions D4, D17, D29; log 3, 4, 13. -/
def Obligations.AddOperations : Prop :=
  ∀ (withCarry : Bool) (x : Operand8) (s : State),
    let op : AluOp := if withCarry then .adc else .add
    let v := s.operand x
    let cin := (withCarry && s.flagC).toNat
    ∃ t, exec (Instr.alu op x) s = .next t ∧
      t.a.toNat = (s.a.toNat + v.toNat + cin) % 256 ∧
      t.flagZ = decide ((s.a.toNat + v.toNat + cin) % 256 = 0) ∧ t.flagN = false ∧
      t.flagH = decide (16 ≤ s.a.toNat % 16 + v.toNat % 16 + cin) ∧
      t.flagC = decide (256 ≤ s.a.toNat + v.toNat + cin) ∧ t.f &&& 0x0F = 0 ∧
      t = { s with
        a := t.a, f := t.f, pc := s.pc + operandLength x
        bus := (s.afterOperand x).bus
        busLog := (s.afterOperand x).busLog }

/-- SUB, SBC and CP on every operand form (R241, R244, R282 to R297, R300, R301, R329 to R336, R340): C is the borrow;
CP discards the result.
Rests on the spec's decisions D4, D17, D29; log 3, 4, 13. -/
def Obligations.SubtractOperations : Prop :=
  ∀ (op : AluOp) (x : Operand8) (s : State), op = .sub ∨ op = .sbc ∨ op = .cp →
    let v := s.operand x
    let cin := (decide (op = .sbc) && s.flagC).toNat
    let diff : Int := (s.a.toNat : Int) - v.toNat - cin
    ∃ t, exec (Instr.alu op x) s = .next t ∧
      (op ≠ .cp → (t.a.toNat : Int) = diff % 256) ∧ (op = .cp → t.a = s.a) ∧
      t.flagZ = decide (diff % 256 = 0) ∧ t.flagN = true ∧
      t.flagH = decide (s.a.toNat % 16 < v.toNat % 16 + cin) ∧
      t.flagC = decide (s.a.toNat < v.toNat + cin) ∧ t.f &&& 0x0F = 0 ∧
      t = { s with
        a := t.a, f := t.f, pc := s.pc + operandLength x
        bus := (s.afterOperand x).bus
        busLog := (s.afterOperand x).busLog }

/-- AND, XOR and OR on every operand form (R242, R244, R305 to R328, R337 to R339), bit by bit.
Rests on the spec's decisions D4, D17, D29; log 3, 4, 13. -/
def Obligations.LogicOperations : Prop :=
  ∀ (op : AluOp) (x : Operand8) (s : State), op = .and ∨ op = .xor ∨ op = .or →
    ∃ t, exec (Instr.alu op x) s = .next t ∧
      (∀ i : Fin 8, t.a.getLsbD i =
        (match op with
          | .and => s.a.getLsbD i && (s.operand x).getLsbD i
          | .xor => Bool.xor (s.a.getLsbD i) ((s.operand x).getLsbD i)
          | _ => s.a.getLsbD i || (s.operand x).getLsbD i)) ∧
      t.flagZ = decide (t.a = 0) ∧ t.flagN = false ∧ t.flagH = decide (op = .and) ∧ t.flagC = false ∧
      t.f &&& 0x0F = 0 ∧
      t = { s with
        a := t.a, f := t.f, pc := s.pc + operandLength x
        bus := (s.afterOperand x).bus
        busLog := (s.afterOperand x).busLog }

/-- INC and DEC of an 8-bit register (14) and of the byte at HL (R243, R250 to R265): the result modulo 256, Z, N and H
as R243 gives them, C kept; on `(HL)` one read, then one write of the same address.
Rests on the spec's decisions D4, D17, D29; log 3, 4, 7, 13. -/
def Obligations.IncDecByte : Prop :=
  ∀ (dec : Bool) (r : Reg8) (s : State),
    let flags := fun (t : State) (v w : Byte) =>
      w.toNat = (if dec then v.toNat + 255 else v.toNat + 1) % 256 ∧ t.flagZ = decide (w = 0) ∧ t.flagN = dec ∧
        t.flagH = decide (v.toNat % 16 = if dec then 0 else 15) ∧ t.flagC = s.flagC ∧ t.f &&& 0x0F = 0
    (∃ t, exec (if dec then Instr.decReg8 r else Instr.incReg8 r) s = .next t ∧ flags t (s.reg r) (t.reg r) ∧
      (∀ q, q ≠ r → t.reg q = s.reg q) ∧
      t = { s with
        a := t.a, f := t.f, b := t.b, c := t.c, d := t.d, e := t.e, h := t.h, l := t.l, pc := s.pc + 1 }) ∧
    (∃ t w, exec (if dec then .decAtHl else .incAtHl) s = .next t ∧ flags t (s.memRead s.hl).1 w ∧
      StoredByte s t s.hl w ∧
      t = { s with
        f := t.f, pc := s.pc + 1
        mem := t.mem
        bus := ((s.memRead s.hl).2.memWrite s.hl w).bus
        busLog := s.busLog.map (fun l => l ++ [.read s.hl (s.memRead s.hl).1, .write s.hl w]) })

/-! ### 16-bit arithmetic -/

/-- INC and DEC of a pair (8) (R345 to R349, R354 to R357): modulo 2^16, with no flag changed, the other pairs and all
else but pc as before.
Rests on the spec's decisions D4, D8; log 13. -/
def Obligations.IncDecPair : Prop :=
  ∀ (r : Reg16) (s : State),
    let moves := fun (i : Instr) (n : Nat) =>
      ∃ t, exec i s = .next t ∧
        (∀ q, (t.pair q).toNat = if q = r then ((s.pair q).toNat + n) % 65536 else (s.pair q).toNat) ∧
        t = { s with
          b := t.b, c := t.c, d := t.d, e := t.e, h := t.h, l := t.l, sp := t.sp, pc := s.pc + 1 }
    moves (Instr.incPair r) 1 ∧ moves (Instr.decPair r) 65535

/-- `ADD HL, rr` (4) (R345, R350 to R353): HL takes the sum modulo 2^16; Z is kept, N is 0, H and C are the carries out
of bits 11 and 15.
Rests on the spec's decisions D4, D8; log 13. -/
def Obligations.AddPairToHl : Prop :=
  ∀ (r : Reg16) (s : State),
    ∃ t, exec (Instr.addHlPair r) s = .next t ∧
      t.hl.toNat = (s.hl.toNat + (s.pair r).toNat) % 65536 ∧ t.flagZ = s.flagZ ∧ t.flagN = false ∧
      t.flagH = decide (4096 ≤ s.hl.toNat % 4096 + (s.pair r).toNat % 4096) ∧
      t.flagC = decide (65536 ≤ s.hl.toNat + (s.pair r).toNat) ∧ t.f &&& 0x0F = 0 ∧
      t = { s with h := t.h, l := t.l, f := t.f, pc := s.pc + 1 }

/-! ### Rotates, decimal adjust, complement, carry -/

/-- RLCA, RRCA, RLA and RRA bit by bit (R360 to R364): Z, N and H are 0, C is the bit rotated out.
Rests on the spec's decisions D4, D28; log 13. -/
def Obligations.RotateAccumulator : Prop :=
  ∀ s : State,
    let rotates := fun (i : Instr) (bit : Fin 8 → Bool) (out : Bool) =>
      ∃ t, exec i s = .next t ∧ (∀ k : Fin 8, t.a.getLsbD k = bit k) ∧
        t.flagZ = false ∧ t.flagN = false ∧ t.flagH = false ∧ t.flagC = out ∧ t.f &&& 0x0F = 0 ∧
        t = { s with a := t.a, f := t.f, pc := s.pc + 1 }
    rotates .rlca (fun k => s.a.getLsbD ((k + 7 : Nat) % 8)) (s.a.getLsbD 7) ∧
    rotates .rrca (fun k => s.a.getLsbD ((k + 1 : Nat) % 8)) (s.a.getLsbD 0) ∧
    rotates .rla (fun k => if k = 0 then s.flagC else s.a.getLsbD (k - 1 : Nat)) (s.a.getLsbD 7) ∧
    rotates .rra (fun k => if k = 7 then s.flagC else s.a.getLsbD (k + 1 : Nat)) (s.a.getLsbD 0)

/-- DAA for every A and F (R365): both tests of the N = 0 branch look at A before any adjustment; N is kept, H is 0.
Rests on the spec's decision D27; log 13. -/
def Obligations.DecimalAdjust : Prop :=
  ∀ s : State,
    let low := s.flagH = true ∨ (s.flagN = false ∧ 9 < s.a.toNat % 16)
    let high := s.flagC = true ∨ (s.flagN = false ∧ 0x99 < s.a.toNat)
    ∃ t adj, exec .daa s = .next t ∧
      (low → ¬ high → adj = 0x06) ∧ (¬ low → high → adj = 0x60) ∧ (low → high → adj = 0x66) ∧
      (¬ low → ¬ high → adj = 0) ∧
      t.a.toNat = (if s.flagN then s.a.toNat + 256 - adj else s.a.toNat + adj) % 256 ∧
      t.flagZ = decide (t.a = 0) ∧ t.flagN = s.flagN ∧ t.flagH = false ∧ (t.flagC = true ↔ high) ∧
      t.f &&& 0x0F = 0 ∧ t = { s with a := t.a, f := t.f, pc := s.pc + 1 }

/-- What `DAA` is for (R365, its examples): after ADD or ADC of two packed BCD numbers, on every operand form, it gives
the packed BCD of their sum modulo 100, with C the decimal carry.
Rests on the spec's decisions D4, D27; log 13. -/
def Obligations.DecimalAddition : Prop :=
  ∀ (withCarry : Bool) (x y : Fin 100) (z : Operand8) (s : State), s.a = bcd x → s.operand z = bcd y →
    let cin := (withCarry && s.flagC).toNat
    ∃ t u, exec (Instr.alu (if withCarry then .adc else .add) z) s = .next t ∧ exec .daa t = .next u ∧
      u.a = bcd ((x + y + cin) % 100) ∧ u.flagC = decide (100 ≤ x + y + cin)

/-- The same after SUB or SBC: the packed BCD of the difference modulo 100, with C the decimal borrow.
Rests on the spec's decisions D4, D27; log 13. -/
def Obligations.DecimalSubtraction : Prop :=
  ∀ (withCarry : Bool) (x y : Fin 100) (z : Operand8) (s : State), s.a = bcd x → s.operand z = bcd y →
    let cin := (withCarry && s.flagC).toNat
    ∃ t u, exec (Instr.alu (if withCarry then .sbc else .sub) z) s = .next t ∧ exec .daa t = .next u ∧
      u.a = bcd ((x + 200 - y - cin) % 100) ∧ u.flagC = decide (x.val < y + cin)

/-- CPL, SCF and CCF (R366 to R368).
Rests on the spec's decision D4; log 13. -/
def Obligations.ComplementAndCarry : Prop :=
  ∀ s : State,
    (∃ t, exec .cpl s = .next t ∧ t.a.toNat = 255 - s.a.toNat ∧ t.flagZ = s.flagZ ∧ t.flagN = true ∧
      t.flagH = true ∧ t.flagC = s.flagC ∧ t.f &&& 0x0F = 0 ∧ t = { s with a := t.a, f := t.f, pc := s.pc + 1 }) ∧
    (∃ t, exec .scf s = .next t ∧ t.flagZ = s.flagZ ∧ t.flagN = false ∧ t.flagH = false ∧ t.flagC = true ∧
      t.f &&& 0x0F = 0 ∧ t = { s with f := t.f, pc := s.pc + 1 }) ∧
    (∃ t, exec .ccf s = .next t ∧ t.flagZ = s.flagZ ∧ t.flagN = false ∧ t.flagH = false ∧ t.flagC = !s.flagC ∧
      t.f &&& 0x0F = 0 ∧ t = { s with f := t.f, pc := s.pc + 1 })

/-! ### Control transfers -/

/-- JP, JP HL and JR, and JP and JR on each of the four conditions (R107, R370 to R376, R382 to R387): pc alone
changes, to the target if the condition holds and to the next instruction if not; a relative target is
pc + 2 + the signed operand, modulo 2^16.
Rests on the spec's decisions D2, D3, D5, D8, D31; log 13. -/
def Obligations.Jumps : Prop :=
  ∀ (a16 : Word) (r8 : Byte) (s : State),
    let near : Word := BitVec.ofInt 16 ((s.pc.toNat : Int) + 2 + r8.toInt)
    let z := s.f.getLsbD 7
    let c := s.f.getLsbD 4
    let goes := fun (i : Instr) (taken : Bool) (target next : Word) =>
      exec i s = .next { s with pc := if taken then target else next }
    goes (.jpA16 a16) true a16 0 ∧ goes .jpHl true (BitVec.ofNat 16 (256 * s.h.toNat + s.l.toNat)) 0 ∧
    goes (.jrR8 r8) true near 0 ∧
    goes (Instr.jpCond .nz a16) (!z) a16 (s.pc + 3) ∧ goes (Instr.jpCond .z a16) z a16 (s.pc + 3) ∧
    goes (Instr.jpCond .nc a16) (!c) a16 (s.pc + 3) ∧ goes (Instr.jpCond .c a16) c a16 (s.pc + 3) ∧
    goes (Instr.jrCond .nz r8) (!z) near (s.pc + 2) ∧ goes (Instr.jrCond .z r8) z near (s.pc + 2) ∧
    goes (Instr.jrCond .nc r8) (!c) near (s.pc + 2) ∧ goes (Instr.jrCond .c r8) c near (s.pc + 2)

/-- CALL (R371, R390), and RST to each of its eight targets (R109, R393 to R400): the address of the next instruction
is in memory at the new SP, pc is the target, and nothing else changes. For RST the target is the opcode byte with
all bits but 5 to 3 cleared.
Rests on the spec's decisions D1, D6, D7, D17; log 3, 4, 7, 13. -/
def Obligations.Calls : Prop :=
  ∀ (a16 : Word) (y : Fin 8) (s : State),
    let calls := fun (i : Instr) (target back : Word) =>
      ∃ t, exec i s = .next t ∧ StoredWord s t (s.sp - 2) back ∧
        t = { s with
          pc := target
          sp := s.sp - 2
          mem := t.mem
          bus := ((s.memWrite (s.sp - 1) (highByte back)).memWrite (s.sp - 2) (lowByte back)).bus
          busLog := s.busLog.map (fun l =>
            l ++ [.write (s.sp - 1) (highByte back), .write (s.sp - 2) (lowByte back)]) }
    calls (.callA16 a16) a16 (s.pc + 3) ∧
    calls (Instr.rst y) (BitVec.ofNat 16 (8 * y)) (s.pc + 1) ∧
    (∃ op : Byte, encode (Instr.rst y) = [op] ∧ (op &&& 0x38).toNat = 8 * y)

/-- CALL on each condition (R370, R388, R389, R391, R392): as CALL if the condition holds; if not, pc goes to the next
instruction and the stack is not touched.
Rests on the spec's decisions D3, D6, D7, D29; log 13. -/
def Obligations.ConditionalCalls : Prop :=
  ∀ (cc : Cond) (a16 : Word) (s : State),
    (s.holds cc = true → exec (Instr.callCond cc a16) s = exec (.callA16 a16) s) ∧
    (s.holds cc = false → exec (Instr.callCond cc a16) s = .next { s with pc := s.pc + 3 }) ∧
    (∃ t, exec (Instr.callCond cc a16) s = .next t) ∧
    s.holds cc =
      (match cc with
        | .nz => !s.f.getLsbD 7
        | .z => s.f.getLsbD 7
        | .nc => !s.f.getLsbD 4
        | .c => s.f.getLsbD 4)

/-- RET, and RET on each condition (R370, R371, R377 to R381): pc takes the 16-bit value at SP, SP is 2 higher, and
nothing else changes; where the condition does not hold pc goes to the next instruction and the stack is not read.
Rests on the spec's decisions D1, D3, D6, D17, D29; log 3, 4, 13. -/
def Obligations.Returns : Prop :=
  ∀ (cc : Cond) (s : State),
    let w := s.readWord s.sp
    let back := { s with pc := w.1, sp := s.sp + 2, bus := w.2.bus, busLog := w.2.busLog }
    exec .ret s = .next back ∧ StoredNothing s back ∧
    exec (Instr.retCond cc) s = .next (if s.holds cc then back else { s with pc := s.pc + 1 })

/-- A RET after a CALL comes back to the instruction after the CALL with SP as it was (R371, R221). The premise: the
stack reads back what is written to it.
Rests on the spec's decisions D6, D7, D17; log 3, 4, 7, 13. -/
def Obligations.ReturnInvertsCall : Prop :=
  ∀ (a16 : Word) (s : State), s.stackIsPlain →
    ∃ t u, exec (.callA16 a16) s = .next t ∧ exec .ret t = .next u ∧ t.pc = a16 ∧
      u = { s with pc := s.pc + 3, mem := t.mem, busLog := u.busLog }

/-! ### CPU control -/

/-- STOP under both lengths, DI by both of its bytes under the default, and EI (R411, R413, R414, R415).
Rests on the spec's decisions D11, D12, D14, D17; log 3, 4, 8, 13. -/
def Obligations.ControlInstructions : Prop :=
  ∀ s : State,
    (s.config.stopLength = .one → exec .stop s = .next { s with mode := .stopped, pc := s.pc + 1 }) ∧
    (s.config.stopLength = .two → exec .stop s = .next { s with
      mode := .stopped
      pc := s.pc + 2
      bus := (s.memRead (s.pc + 1)).2.bus
      busLog := (s.memRead (s.pc + 1)).2.busLog }) ∧
    exec .diF3 s = .next { s with ime := false, eiPending := false, pc := s.pc + 1 } ∧
    (s.config.d9Meaning = .di →
      exec .diD9 s = .next { s with ime := false, eiPending := false, pc := s.pc + 1 }) ∧
    exec .ei s = .next { s with eiPending := true, pc := s.pc + 1 }

/-- Opcode 0xD9 under `D9_MEANING = reti` (R414): pc takes the 16-bit value at SP, SP is 2 higher, IME is 1 at once,
and nothing else changes.
Rests on the spec's decisions D11, D17, D26; log 3, 4, 8, 13. -/
def Obligations.D9AsReturn : Prop :=
  ∀ s : State, s.config.d9Meaning = .reti →
    let w := s.readWord s.sp
    let back := { s with pc := w.1, sp := s.sp + 2, ime := true, bus := w.2.bus, busLog := w.2.busLog }
    exec .diD9 s = .next back ∧ StoredNothing s back

/-- HALT (R412, R503): it halts with pc at the next instruction, unless IME = 0 and an enabled source already
requests, where the model faults.
Rests on the spec's decision D15; log 10, 13. -/
def Obligations.HaltOrHaltBug : Prop :=
  ∀ s : State,
    (s.ime = true ∨ s.irqRequested = false → exec .halt s = .next { s with mode := .halted, pc := s.pc + 1 }) ∧
    (s.ime = false → s.irqRequested = true → exec .halt s = .fault (.haltBug s.pc))

/-- The eleven unlisted bytes: each decodes to its own row, and executing it is the fault `IllegalOpcode` with the
byte and its address, in every state (R417, R501).
Rests on the spec's decision D9; log 11, 13, 15. -/
def Obligations.UnlistedBytesFault : Prop :=
  (unlistedRows.map Prod.fst = [0xD3, 0xDB, 0xDD, 0xE3, 0xE4, 0xEB, 0xEC, 0xED, 0xF4, 0xFC, 0xFD]) ∧
  ∀ (op : Byte) (i : Instr), (op, i) ∈ unlistedRows →
    (∀ rest, decode (op :: rest) = .ok (i, rest)) ∧ ∀ s : State, exec i s = .fault (.illegalOpcode op s.pc)

/-- The byte 0xCB decodes to the prefix row whatever follows, and executing it is refused with its address, in every
state (R416, R502).
Rests on the spec's decision D10; log 11, 13, 15. -/
def Obligations.PrefixRefused : Prop :=
  (∀ rest, decode (0xCB :: rest) = .ok (.cbPrefix, rest)) ∧ ∀ s : State, exec .cbPrefix s = .refused (.cbPrefix s.pc)

/-! ### Rules over all instructions -/

/-- Who writes the flags (R37): for every instruction and each flag, the table of R37 as `flagEffects` writes it down.
Rests on the spec's decision D4; log 13. -/
def Obligations.FlagTable : Prop :=
  ∀ (i : Instr) (s t : State), exec i s = .next t →
    (flagEffects i).z.allows s.flagZ t.flagZ ∧ (flagEffects i).n.allows s.flagN t.flagN ∧
    (flagEffects i).h.allows s.flagH t.flagH ∧ (flagEffects i).c.allows s.flagC t.flagC ∧
    (flagEffects i = ⟨.kept, .kept, .kept, .kept⟩ → t.f = s.f)

/-- Who writes the control state and SP (R33, R38, R39, R40): IME rises only by 0xD9 under `reti` and falls only by a
DI; ei_pending is set only by EI and cleared only by a DI; the mode changes only by HALT and STOP; SP changes only
by the instructions of R33 (and 0xD9). No instruction changes the parameters or the inputs to come.
Rests on the spec's decisions D11, D12, D13, D14; log 13. -/
def Obligations.ControlStateFrame : Prop :=
  ∀ (i : Instr) (s t : State), exec i s = .next t →
    (t.ime = true → s.ime = true ∨ (i = .diD9 ∧ s.config.d9Meaning = .reti)) ∧
    (t.ime = false → s.ime = false ∨ i = .diF3 ∨ (i = .diD9 ∧ s.config.d9Meaning = .di)) ∧
    (t.eiPending = true → s.eiPending = true ∨ i = .ei) ∧
    (t.eiPending = false → s.eiPending = false ∨ i = .diF3 ∨ (i = .diD9 ∧ s.config.d9Meaning = .di)) ∧
    (t.mode = s.mode ∨ (i = .halt ∧ t.mode = .halted) ∨ (i = .stop ∧ t.mode = .stopped)) ∧
    (mayWriteSp i = false → t.sp = s.sp) ∧
    t.config = s.config ∧ t.inputs = s.inputs ∧ t.irqRequests = s.irqRequests

/-- The data accesses of every instruction, in order (R76, R78, R130, R244), which are all that the platform's own bus
sees (R72, R80), and the frame of memory: a byte that the instruction does not store to reads as before (R73).
Rests on the spec's decisions D17, D29; log 3, 4, 13. -/
def Obligations.AccessesAndMemoryFrame : Prop :=
  ∀ (i : Instr) (s t : State), exec i s = .next t →
    (∀ l, s.busLog = some l → ∃ l', t.busLog = some (l ++ l') ∧ l'.map BusAccess.access = dataAccesses i s ∧
      s.busRun s.bus l' t.bus) ∧
    (s.busLog = none → t.busLog = none) ∧
    (dataAccesses i s = [] → t.bus = s.bus) ∧
    ∀ b, s.onPlatform b = false → ¬ stores i s b → t.peek b = s.peek b

/-- The record of accesses is invisible to the machine (the model's own field, log 4): with another record, or none, a
step gives the same answer but for the record. -/
def Obligations.RecordIsInvisible : Prop :=
  ∀ (s : State) (l : Option (List BusAccess)), withoutLog (step { s with busLog := l }) = withoutLog (step s)

/-- The parameters of R8 act where their rules say and nowhere else: `D9_MEANING` in the meaning of 0xD9 (R414),
`STOP_LENGTH` in that of STOP (R411).
Rests on the spec's decisions D11, D12; log 8, 13. -/
def Obligations.ParametersActLocally : Prop :=
  ∀ (i : Instr) (m : D9Meaning) (n : StopLength) (s t : State),
    (i = .diD9 → m = s.config.d9Meaning) → (i = .stop → n = s.config.stopLength) →
    exec i s = .next t →
    let other := fun u : State => { u with config := { u.config with d9Meaning := m, stopLength := n } }
    exec i (other s) = .next (other t)

end
end

