-- ==== Sys2Proof/Laws/Memory.lean ====
section
/-! SUPPORT. What the memory operations can do: reading after each, and the canonical form kept by each. -/

namespace Sys2Proof.Machine

theorem Memory.read_erase (m : Memory) (a b : Nat) :
    (m.erase a).read b = if b = a then Config.unlistedByte else m.read b := by
  induction m with
  | nil => simp [Memory.erase, Memory.read]
  | cons x t ih =>
    obtain ⟨k, w⟩ := x
    simp only [Memory.erase, Memory.read]
    split
    · rename_i h; subst h
      rw [ih]
      by_cases hb : b = k
      · simp [hb]
      · simp [hb, Ne.symm hb]
    · rename_i h
      simp only [Memory.read]
      rw [ih]
      by_cases hk : k = b
      · subst hk; simp [h]
      · simp [hk]

theorem Memory.read_insert (m : Memory) (a b : Nat) (v : Byte) :
    (m.insert a v).read b = if b = a then v else m.read b := by
  induction m with
  | nil => simp [Memory.insert, Memory.read, eq_comm]
  | cons x t ih =>
    obtain ⟨k, w⟩ := x
    simp only [Memory.insert, Memory.read]
    split
    · rename_i h
      simp only [Memory.read]
      rw [ih]
      by_cases hk : k = b
      · subst hk; simp [Nat.ne_of_lt h]
      · simp [hk]
    · split
      · rename_i h; subst h
        simp only [Memory.read]
        by_cases hb : b = k
        · simp [hb]
        · simp [hb, Ne.symm hb]
      · simp only [Memory.read]
        by_cases hb : b = a
        · simp [hb]
        · simp [hb, Ne.symm hb]

/-- Reading after a write: the byte written at its address, and the old byte everywhere else. -/
theorem Memory.read_write (m : Memory) (a b : Nat) (v : Byte) :
    (m.write a v).read b = if b = a then v else m.read b := by
  unfold Memory.write
  split
  · rename_i h; rw [read_erase, h]
  · exact read_insert m a b v

theorem Memory.wfFrom_mono {lo lo' : Nat} {m : Memory} (h : m.wfFrom lo = true) (hl : lo' ≤ lo) :
    m.wfFrom lo' = true := by
  cases m with
  | nil => rfl
  | cons x t =>
    obtain ⟨k, w⟩ := x
    simp only [Memory.wfFrom, Bool.and_eq_true, decide_eq_true_eq] at h ⊢
    exact ⟨⟨⟨by omega, h.1.1.2⟩, h.1.2⟩, h.2⟩

theorem Memory.wfFrom_erase {lo : Nat} {m : Memory} (a : Nat) (h : m.wfFrom lo = true) :
    (m.erase a).wfFrom lo = true := by
  induction m generalizing lo with
  | nil => rfl
  | cons x t ih =>
    obtain ⟨k, w⟩ := x
    simp only [Memory.wfFrom, Bool.and_eq_true, decide_eq_true_eq] at h
    simp only [Memory.erase]
    split
    · exact ih (wfFrom_mono h.2 (by omega))
    · simp only [Memory.wfFrom, Bool.and_eq_true, decide_eq_true_eq]
      exact ⟨h.1, ih h.2⟩

theorem Memory.wfFrom_insert {lo : Nat} {m : Memory} {a : Nat} {v : Byte} (h : m.wfFrom lo = true)
    (hlo : lo ≤ a) (ha : a < 65536) (hv : v ≠ Config.unlistedByte) : (m.insert a v).wfFrom lo = true := by
  induction m generalizing lo with
  | nil => simp [Memory.insert, Memory.wfFrom, hlo, ha, hv]
  | cons x t ih =>
    obtain ⟨k, w⟩ := x
    simp only [Memory.wfFrom, Bool.and_eq_true, decide_eq_true_eq] at h
    simp only [Memory.insert]
    split
    · simp only [Memory.wfFrom, Bool.and_eq_true, decide_eq_true_eq]
      exact ⟨h.1, ih h.2 (by omega)⟩
    · split
      · rename_i hk
        simp only [Memory.wfFrom, Bool.and_eq_true, decide_eq_true_eq]
        exact ⟨⟨⟨by omega, ha⟩, hv⟩, hk ▸ h.2⟩
      · simp only [Memory.wfFrom, Bool.and_eq_true, decide_eq_true_eq]
        exact ⟨⟨⟨hlo, ha⟩, hv⟩, ⟨⟨by omega, h.1.1.2⟩, h.1.2⟩, h.2⟩

/-- A write keeps the canonical form. -/
theorem Memory.wf_write {m : Memory} {a : Nat} {v : Byte} (h : m.wf = true) (ha : a < 65536) :
    (m.write a v).wf = true := by
  unfold Memory.write
  split
  · exact wfFrom_erase a h
  · rename_i hv; exact wfFrom_insert h (Nat.zero_le a) ha hv

/-- The memory of the reset state has the canonical form. -/
theorem Memory.wf_reset : State.reset.mem.wf = true := rfl

/-- A poke keeps the canonical form. -/
theorem State.wf_poke {s : State} (a : Word) (v : Byte) (h : s.mem.wf = true) : (s.poke a v).mem.wf = true :=
  Memory.wf_write h a.isLt

/-- A bus write keeps the canonical form. -/
theorem State.wf_memWrite {s : State} (a : Word) (v : Byte) (h : s.mem.wf = true) :
    (s.memWrite a v).mem.wf = true := by
  show Memory.wf (if s.onPlatform a then s.mem else (s.poke a v).mem) = true
  split
  · exact h
  · exact wf_poke a v h

/-- The platform's acknowledge keeps the canonical form. -/
theorem State.wf_acknowledge {s : State} (i : Nat) (h : s.mem.wf = true) : (s.acknowledge i).mem.wf = true :=
  Memory.wf_write h ifAddress.isLt

end Sys2Proof.Machine
end

