-- ==== Sys2Proof/Laws/State.lean ====
section
/-! SUPPORT. Each field of State after each named update: one lemma per field, true by unfolding, for `simp`. -/

namespace Sys2Proof.Machine

/-! ### setBc -/

@[simp] theorem State.a_setBc (s : State) (v : Word) : (s.setBc v).a = s.a := rfl
@[simp] theorem State.f_setBc (s : State) (v : Word) : (s.setBc v).f = s.f := rfl
@[simp] theorem State.b_setBc (s : State) (v : Word) : (s.setBc v).b = highByte v := rfl
@[simp] theorem State.c_setBc (s : State) (v : Word) : (s.setBc v).c = lowByte v := rfl
@[simp] theorem State.d_setBc (s : State) (v : Word) : (s.setBc v).d = s.d := rfl
@[simp] theorem State.e_setBc (s : State) (v : Word) : (s.setBc v).e = s.e := rfl
@[simp] theorem State.h_setBc (s : State) (v : Word) : (s.setBc v).h = s.h := rfl
@[simp] theorem State.l_setBc (s : State) (v : Word) : (s.setBc v).l = s.l := rfl
@[simp] theorem State.sp_setBc (s : State) (v : Word) : (s.setBc v).sp = s.sp := rfl
@[simp] theorem State.pc_setBc (s : State) (v : Word) : (s.setBc v).pc = s.pc := rfl
@[simp] theorem State.ime_setBc (s : State) (v : Word) : (s.setBc v).ime = s.ime := rfl
@[simp] theorem State.eiPending_setBc (s : State) (v : Word) : (s.setBc v).eiPending = s.eiPending := rfl
@[simp] theorem State.mode_setBc (s : State) (v : Word) : (s.setBc v).mode = s.mode := rfl
@[simp] theorem State.mem_setBc (s : State) (v : Word) : (s.setBc v).mem = s.mem := rfl
@[simp] theorem State.bus_setBc (s : State) (v : Word) : (s.setBc v).bus = s.bus := rfl
@[simp] theorem State.busLog_setBc (s : State) (v : Word) : (s.setBc v).busLog = s.busLog := rfl
@[simp] theorem State.irqRequests_setBc (s : State) (v : Word) : (s.setBc v).irqRequests = s.irqRequests := rfl
@[simp] theorem State.inputs_setBc (s : State) (v : Word) : (s.setBc v).inputs = s.inputs := rfl
@[simp] theorem State.config_setBc (s : State) (v : Word) : (s.setBc v).config = s.config := rfl

/-! ### setDe -/

@[simp] theorem State.a_setDe (s : State) (v : Word) : (s.setDe v).a = s.a := rfl
@[simp] theorem State.f_setDe (s : State) (v : Word) : (s.setDe v).f = s.f := rfl
@[simp] theorem State.b_setDe (s : State) (v : Word) : (s.setDe v).b = s.b := rfl
@[simp] theorem State.c_setDe (s : State) (v : Word) : (s.setDe v).c = s.c := rfl
@[simp] theorem State.d_setDe (s : State) (v : Word) : (s.setDe v).d = highByte v := rfl
@[simp] theorem State.e_setDe (s : State) (v : Word) : (s.setDe v).e = lowByte v := rfl
@[simp] theorem State.h_setDe (s : State) (v : Word) : (s.setDe v).h = s.h := rfl
@[simp] theorem State.l_setDe (s : State) (v : Word) : (s.setDe v).l = s.l := rfl
@[simp] theorem State.sp_setDe (s : State) (v : Word) : (s.setDe v).sp = s.sp := rfl
@[simp] theorem State.pc_setDe (s : State) (v : Word) : (s.setDe v).pc = s.pc := rfl
@[simp] theorem State.ime_setDe (s : State) (v : Word) : (s.setDe v).ime = s.ime := rfl
@[simp] theorem State.eiPending_setDe (s : State) (v : Word) : (s.setDe v).eiPending = s.eiPending := rfl
@[simp] theorem State.mode_setDe (s : State) (v : Word) : (s.setDe v).mode = s.mode := rfl
@[simp] theorem State.mem_setDe (s : State) (v : Word) : (s.setDe v).mem = s.mem := rfl
@[simp] theorem State.bus_setDe (s : State) (v : Word) : (s.setDe v).bus = s.bus := rfl
@[simp] theorem State.busLog_setDe (s : State) (v : Word) : (s.setDe v).busLog = s.busLog := rfl
@[simp] theorem State.irqRequests_setDe (s : State) (v : Word) : (s.setDe v).irqRequests = s.irqRequests := rfl
@[simp] theorem State.inputs_setDe (s : State) (v : Word) : (s.setDe v).inputs = s.inputs := rfl
@[simp] theorem State.config_setDe (s : State) (v : Word) : (s.setDe v).config = s.config := rfl

/-! ### setHl -/

@[simp] theorem State.a_setHl (s : State) (v : Word) : (s.setHl v).a = s.a := rfl
@[simp] theorem State.f_setHl (s : State) (v : Word) : (s.setHl v).f = s.f := rfl
@[simp] theorem State.b_setHl (s : State) (v : Word) : (s.setHl v).b = s.b := rfl
@[simp] theorem State.c_setHl (s : State) (v : Word) : (s.setHl v).c = s.c := rfl
@[simp] theorem State.d_setHl (s : State) (v : Word) : (s.setHl v).d = s.d := rfl
@[simp] theorem State.e_setHl (s : State) (v : Word) : (s.setHl v).e = s.e := rfl
@[simp] theorem State.h_setHl (s : State) (v : Word) : (s.setHl v).h = highByte v := rfl
@[simp] theorem State.l_setHl (s : State) (v : Word) : (s.setHl v).l = lowByte v := rfl
@[simp] theorem State.sp_setHl (s : State) (v : Word) : (s.setHl v).sp = s.sp := rfl
@[simp] theorem State.pc_setHl (s : State) (v : Word) : (s.setHl v).pc = s.pc := rfl
@[simp] theorem State.ime_setHl (s : State) (v : Word) : (s.setHl v).ime = s.ime := rfl
@[simp] theorem State.eiPending_setHl (s : State) (v : Word) : (s.setHl v).eiPending = s.eiPending := rfl
@[simp] theorem State.mode_setHl (s : State) (v : Word) : (s.setHl v).mode = s.mode := rfl
@[simp] theorem State.mem_setHl (s : State) (v : Word) : (s.setHl v).mem = s.mem := rfl
@[simp] theorem State.bus_setHl (s : State) (v : Word) : (s.setHl v).bus = s.bus := rfl
@[simp] theorem State.busLog_setHl (s : State) (v : Word) : (s.setHl v).busLog = s.busLog := rfl
@[simp] theorem State.irqRequests_setHl (s : State) (v : Word) : (s.setHl v).irqRequests = s.irqRequests := rfl
@[simp] theorem State.inputs_setHl (s : State) (v : Word) : (s.setHl v).inputs = s.inputs := rfl
@[simp] theorem State.config_setHl (s : State) (v : Word) : (s.setHl v).config = s.config := rfl

/-! ### setSp -/

@[simp] theorem State.a_setSp (s : State) (v : Word) : (s.setSp v).a = s.a := rfl
@[simp] theorem State.f_setSp (s : State) (v : Word) : (s.setSp v).f = s.f := rfl
@[simp] theorem State.b_setSp (s : State) (v : Word) : (s.setSp v).b = s.b := rfl
@[simp] theorem State.c_setSp (s : State) (v : Word) : (s.setSp v).c = s.c := rfl
@[simp] theorem State.d_setSp (s : State) (v : Word) : (s.setSp v).d = s.d := rfl
@[simp] theorem State.e_setSp (s : State) (v : Word) : (s.setSp v).e = s.e := rfl
@[simp] theorem State.h_setSp (s : State) (v : Word) : (s.setSp v).h = s.h := rfl
@[simp] theorem State.l_setSp (s : State) (v : Word) : (s.setSp v).l = s.l := rfl
@[simp] theorem State.sp_setSp (s : State) (v : Word) : (s.setSp v).sp = v := rfl
@[simp] theorem State.pc_setSp (s : State) (v : Word) : (s.setSp v).pc = s.pc := rfl
@[simp] theorem State.ime_setSp (s : State) (v : Word) : (s.setSp v).ime = s.ime := rfl
@[simp] theorem State.eiPending_setSp (s : State) (v : Word) : (s.setSp v).eiPending = s.eiPending := rfl
@[simp] theorem State.mode_setSp (s : State) (v : Word) : (s.setSp v).mode = s.mode := rfl
@[simp] theorem State.mem_setSp (s : State) (v : Word) : (s.setSp v).mem = s.mem := rfl
@[simp] theorem State.bus_setSp (s : State) (v : Word) : (s.setSp v).bus = s.bus := rfl
@[simp] theorem State.busLog_setSp (s : State) (v : Word) : (s.setSp v).busLog = s.busLog := rfl
@[simp] theorem State.irqRequests_setSp (s : State) (v : Word) : (s.setSp v).irqRequests = s.irqRequests := rfl
@[simp] theorem State.inputs_setSp (s : State) (v : Word) : (s.setSp v).inputs = s.inputs := rfl
@[simp] theorem State.config_setSp (s : State) (v : Word) : (s.setSp v).config = s.config := rfl

/-! ### setF -/

@[simp] theorem State.a_setF (s : State) (v : Byte) : (s.setF v).a = s.a := rfl
@[simp] theorem State.f_setF (s : State) (v : Byte) : (s.setF v).f = v &&& 0xF0 := rfl
@[simp] theorem State.b_setF (s : State) (v : Byte) : (s.setF v).b = s.b := rfl
@[simp] theorem State.c_setF (s : State) (v : Byte) : (s.setF v).c = s.c := rfl
@[simp] theorem State.d_setF (s : State) (v : Byte) : (s.setF v).d = s.d := rfl
@[simp] theorem State.e_setF (s : State) (v : Byte) : (s.setF v).e = s.e := rfl
@[simp] theorem State.h_setF (s : State) (v : Byte) : (s.setF v).h = s.h := rfl
@[simp] theorem State.l_setF (s : State) (v : Byte) : (s.setF v).l = s.l := rfl
@[simp] theorem State.sp_setF (s : State) (v : Byte) : (s.setF v).sp = s.sp := rfl
@[simp] theorem State.pc_setF (s : State) (v : Byte) : (s.setF v).pc = s.pc := rfl
@[simp] theorem State.ime_setF (s : State) (v : Byte) : (s.setF v).ime = s.ime := rfl
@[simp] theorem State.eiPending_setF (s : State) (v : Byte) : (s.setF v).eiPending = s.eiPending := rfl
@[simp] theorem State.mode_setF (s : State) (v : Byte) : (s.setF v).mode = s.mode := rfl
@[simp] theorem State.mem_setF (s : State) (v : Byte) : (s.setF v).mem = s.mem := rfl
@[simp] theorem State.bus_setF (s : State) (v : Byte) : (s.setF v).bus = s.bus := rfl
@[simp] theorem State.busLog_setF (s : State) (v : Byte) : (s.setF v).busLog = s.busLog := rfl
@[simp] theorem State.irqRequests_setF (s : State) (v : Byte) : (s.setF v).irqRequests = s.irqRequests := rfl
@[simp] theorem State.inputs_setF (s : State) (v : Byte) : (s.setF v).inputs = s.inputs := rfl
@[simp] theorem State.config_setF (s : State) (v : Byte) : (s.setF v).config = s.config := rfl

/-! ### setAf -/

@[simp] theorem State.a_setAf (s : State) (v : Word) : (s.setAf v).a = highByte v := rfl
@[simp] theorem State.f_setAf (s : State) (v : Word) : (s.setAf v).f = lowByte v &&& 0xF0 := rfl
@[simp] theorem State.b_setAf (s : State) (v : Word) : (s.setAf v).b = s.b := rfl
@[simp] theorem State.c_setAf (s : State) (v : Word) : (s.setAf v).c = s.c := rfl
@[simp] theorem State.d_setAf (s : State) (v : Word) : (s.setAf v).d = s.d := rfl
@[simp] theorem State.e_setAf (s : State) (v : Word) : (s.setAf v).e = s.e := rfl
@[simp] theorem State.h_setAf (s : State) (v : Word) : (s.setAf v).h = s.h := rfl
@[simp] theorem State.l_setAf (s : State) (v : Word) : (s.setAf v).l = s.l := rfl
@[simp] theorem State.sp_setAf (s : State) (v : Word) : (s.setAf v).sp = s.sp := rfl
@[simp] theorem State.pc_setAf (s : State) (v : Word) : (s.setAf v).pc = s.pc := rfl
@[simp] theorem State.ime_setAf (s : State) (v : Word) : (s.setAf v).ime = s.ime := rfl
@[simp] theorem State.eiPending_setAf (s : State) (v : Word) : (s.setAf v).eiPending = s.eiPending := rfl
@[simp] theorem State.mode_setAf (s : State) (v : Word) : (s.setAf v).mode = s.mode := rfl
@[simp] theorem State.mem_setAf (s : State) (v : Word) : (s.setAf v).mem = s.mem := rfl
@[simp] theorem State.bus_setAf (s : State) (v : Word) : (s.setAf v).bus = s.bus := rfl
@[simp] theorem State.busLog_setAf (s : State) (v : Word) : (s.setAf v).busLog = s.busLog := rfl
@[simp] theorem State.irqRequests_setAf (s : State) (v : Word) : (s.setAf v).irqRequests = s.irqRequests := rfl
@[simp] theorem State.inputs_setAf (s : State) (v : Word) : (s.setAf v).inputs = s.inputs := rfl
@[simp] theorem State.config_setAf (s : State) (v : Word) : (s.setAf v).config = s.config := rfl

/-! ### setFlags -/

@[simp] theorem State.a_setFlags (s : State) (z n h c : Bool) : (s.setFlags z n h c).a = s.a := rfl
@[simp] theorem State.f_setFlags (s : State) (z n h c : Bool) :
    (s.setFlags z n h c).f = packFlags z n h c := by
  cases z <;> cases n <;> cases h <;> cases c <;> rfl
@[simp] theorem State.b_setFlags (s : State) (z n h c : Bool) : (s.setFlags z n h c).b = s.b := rfl
@[simp] theorem State.c_setFlags (s : State) (z n h c : Bool) : (s.setFlags z n h c).c = s.c := rfl
@[simp] theorem State.d_setFlags (s : State) (z n h c : Bool) : (s.setFlags z n h c).d = s.d := rfl
@[simp] theorem State.e_setFlags (s : State) (z n h c : Bool) : (s.setFlags z n h c).e = s.e := rfl
@[simp] theorem State.h_setFlags (s : State) (z n h c : Bool) : (s.setFlags z n h c).h = s.h := rfl
@[simp] theorem State.l_setFlags (s : State) (z n h c : Bool) : (s.setFlags z n h c).l = s.l := rfl
@[simp] theorem State.sp_setFlags (s : State) (z n h c : Bool) : (s.setFlags z n h c).sp = s.sp := rfl
@[simp] theorem State.pc_setFlags (s : State) (z n h c : Bool) : (s.setFlags z n h c).pc = s.pc := rfl
@[simp] theorem State.ime_setFlags (s : State) (z n h c : Bool) : (s.setFlags z n h c).ime = s.ime := rfl
@[simp] theorem State.eiPending_setFlags (s : State) (z n h c : Bool) :
    (s.setFlags z n h c).eiPending = s.eiPending := rfl
@[simp] theorem State.mode_setFlags (s : State) (z n h c : Bool) : (s.setFlags z n h c).mode = s.mode := rfl
@[simp] theorem State.mem_setFlags (s : State) (z n h c : Bool) : (s.setFlags z n h c).mem = s.mem := rfl
@[simp] theorem State.bus_setFlags (s : State) (z n h c : Bool) : (s.setFlags z n h c).bus = s.bus := rfl
@[simp] theorem State.busLog_setFlags (s : State) (z n h c : Bool) : (s.setFlags z n h c).busLog = s.busLog := rfl
@[simp] theorem State.irqRequests_setFlags (s : State) (z n h c : Bool) :
    (s.setFlags z n h c).irqRequests = s.irqRequests := rfl
@[simp] theorem State.inputs_setFlags (s : State) (z n h c : Bool) : (s.setFlags z n h c).inputs = s.inputs := rfl
@[simp] theorem State.config_setFlags (s : State) (z n h c : Bool) : (s.setFlags z n h c).config = s.config := rfl

/-! ### advance -/

@[simp] theorem State.a_advance (s : State) (n : Word) : (s.advance n).a = s.a := rfl
@[simp] theorem State.f_advance (s : State) (n : Word) : (s.advance n).f = s.f := rfl
@[simp] theorem State.b_advance (s : State) (n : Word) : (s.advance n).b = s.b := rfl
@[simp] theorem State.c_advance (s : State) (n : Word) : (s.advance n).c = s.c := rfl
@[simp] theorem State.d_advance (s : State) (n : Word) : (s.advance n).d = s.d := rfl
@[simp] theorem State.e_advance (s : State) (n : Word) : (s.advance n).e = s.e := rfl
@[simp] theorem State.h_advance (s : State) (n : Word) : (s.advance n).h = s.h := rfl
@[simp] theorem State.l_advance (s : State) (n : Word) : (s.advance n).l = s.l := rfl
@[simp] theorem State.sp_advance (s : State) (n : Word) : (s.advance n).sp = s.sp := rfl
@[simp] theorem State.pc_advance (s : State) (n : Word) : (s.advance n).pc = s.pc + n := rfl
@[simp] theorem State.ime_advance (s : State) (n : Word) : (s.advance n).ime = s.ime := rfl
@[simp] theorem State.eiPending_advance (s : State) (n : Word) : (s.advance n).eiPending = s.eiPending := rfl
@[simp] theorem State.mode_advance (s : State) (n : Word) : (s.advance n).mode = s.mode := rfl
@[simp] theorem State.mem_advance (s : State) (n : Word) : (s.advance n).mem = s.mem := rfl
@[simp] theorem State.bus_advance (s : State) (n : Word) : (s.advance n).bus = s.bus := rfl
@[simp] theorem State.busLog_advance (s : State) (n : Word) : (s.advance n).busLog = s.busLog := rfl
@[simp] theorem State.irqRequests_advance (s : State) (n : Word) : (s.advance n).irqRequests = s.irqRequests := rfl
@[simp] theorem State.inputs_advance (s : State) (n : Word) : (s.advance n).inputs = s.inputs := rfl
@[simp] theorem State.config_advance (s : State) (n : Word) : (s.advance n).config = s.config := rfl

/-! ### jump -/

@[simp] theorem State.a_jump (s : State) (w : Word) : (s.jump w).a = s.a := rfl
@[simp] theorem State.f_jump (s : State) (w : Word) : (s.jump w).f = s.f := rfl
@[simp] theorem State.b_jump (s : State) (w : Word) : (s.jump w).b = s.b := rfl
@[simp] theorem State.c_jump (s : State) (w : Word) : (s.jump w).c = s.c := rfl
@[simp] theorem State.d_jump (s : State) (w : Word) : (s.jump w).d = s.d := rfl
@[simp] theorem State.e_jump (s : State) (w : Word) : (s.jump w).e = s.e := rfl
@[simp] theorem State.h_jump (s : State) (w : Word) : (s.jump w).h = s.h := rfl
@[simp] theorem State.l_jump (s : State) (w : Word) : (s.jump w).l = s.l := rfl
@[simp] theorem State.sp_jump (s : State) (w : Word) : (s.jump w).sp = s.sp := rfl
@[simp] theorem State.pc_jump (s : State) (w : Word) : (s.jump w).pc = w := rfl
@[simp] theorem State.ime_jump (s : State) (w : Word) : (s.jump w).ime = s.ime := rfl
@[simp] theorem State.eiPending_jump (s : State) (w : Word) : (s.jump w).eiPending = s.eiPending := rfl
@[simp] theorem State.mode_jump (s : State) (w : Word) : (s.jump w).mode = s.mode := rfl
@[simp] theorem State.mem_jump (s : State) (w : Word) : (s.jump w).mem = s.mem := rfl
@[simp] theorem State.bus_jump (s : State) (w : Word) : (s.jump w).bus = s.bus := rfl
@[simp] theorem State.busLog_jump (s : State) (w : Word) : (s.jump w).busLog = s.busLog := rfl
@[simp] theorem State.irqRequests_jump (s : State) (w : Word) : (s.jump w).irqRequests = s.irqRequests := rfl
@[simp] theorem State.inputs_jump (s : State) (w : Word) : (s.jump w).inputs = s.inputs := rfl
@[simp] theorem State.config_jump (s : State) (w : Word) : (s.jump w).config = s.config := rfl

/-! ### poke -/

@[simp] theorem State.a_poke (s : State) (x : Word) (v : Byte) : (s.poke x v).a = s.a := rfl
@[simp] theorem State.f_poke (s : State) (x : Word) (v : Byte) : (s.poke x v).f = s.f := rfl
@[simp] theorem State.b_poke (s : State) (x : Word) (v : Byte) : (s.poke x v).b = s.b := rfl
@[simp] theorem State.c_poke (s : State) (x : Word) (v : Byte) : (s.poke x v).c = s.c := rfl
@[simp] theorem State.d_poke (s : State) (x : Word) (v : Byte) : (s.poke x v).d = s.d := rfl
@[simp] theorem State.e_poke (s : State) (x : Word) (v : Byte) : (s.poke x v).e = s.e := rfl
@[simp] theorem State.h_poke (s : State) (x : Word) (v : Byte) : (s.poke x v).h = s.h := rfl
@[simp] theorem State.l_poke (s : State) (x : Word) (v : Byte) : (s.poke x v).l = s.l := rfl
@[simp] theorem State.sp_poke (s : State) (x : Word) (v : Byte) : (s.poke x v).sp = s.sp := rfl
@[simp] theorem State.pc_poke (s : State) (x : Word) (v : Byte) : (s.poke x v).pc = s.pc := rfl
@[simp] theorem State.ime_poke (s : State) (x : Word) (v : Byte) : (s.poke x v).ime = s.ime := rfl
@[simp] theorem State.eiPending_poke (s : State) (x : Word) (v : Byte) : (s.poke x v).eiPending = s.eiPending := rfl
@[simp] theorem State.mode_poke (s : State) (x : Word) (v : Byte) : (s.poke x v).mode = s.mode := rfl
/-- Not for `simp`: memory after a poke is read through `State.peek_poke`, and its form kept by `State.wf_poke`. -/
theorem State.mem_poke (s : State) (x : Word) (v : Byte) : (s.poke x v).mem = s.mem.write x.toNat (if s.highBitsFixed x then v &&& 0x1F else v) := rfl
@[simp] theorem State.bus_poke (s : State) (x : Word) (v : Byte) : (s.poke x v).bus = s.bus := rfl
@[simp] theorem State.busLog_poke (s : State) (x : Word) (v : Byte) : (s.poke x v).busLog = s.busLog := rfl
@[simp] theorem State.irqRequests_poke (s : State) (x : Word) (v : Byte) :
    (s.poke x v).irqRequests = s.irqRequests := rfl
@[simp] theorem State.inputs_poke (s : State) (x : Word) (v : Byte) : (s.poke x v).inputs = s.inputs := rfl
@[simp] theorem State.config_poke (s : State) (x : Word) (v : Byte) : (s.poke x v).config = s.config := rfl

/-! ### record -/

@[simp] theorem State.a_record (s : State) (x : BusAccess) : (s.record x).a = s.a := rfl
@[simp] theorem State.f_record (s : State) (x : BusAccess) : (s.record x).f = s.f := rfl
@[simp] theorem State.b_record (s : State) (x : BusAccess) : (s.record x).b = s.b := rfl
@[simp] theorem State.c_record (s : State) (x : BusAccess) : (s.record x).c = s.c := rfl
@[simp] theorem State.d_record (s : State) (x : BusAccess) : (s.record x).d = s.d := rfl
@[simp] theorem State.e_record (s : State) (x : BusAccess) : (s.record x).e = s.e := rfl
@[simp] theorem State.h_record (s : State) (x : BusAccess) : (s.record x).h = s.h := rfl
@[simp] theorem State.l_record (s : State) (x : BusAccess) : (s.record x).l = s.l := rfl
@[simp] theorem State.sp_record (s : State) (x : BusAccess) : (s.record x).sp = s.sp := rfl
@[simp] theorem State.pc_record (s : State) (x : BusAccess) : (s.record x).pc = s.pc := rfl
@[simp] theorem State.ime_record (s : State) (x : BusAccess) : (s.record x).ime = s.ime := rfl
@[simp] theorem State.eiPending_record (s : State) (x : BusAccess) : (s.record x).eiPending = s.eiPending := rfl
@[simp] theorem State.mode_record (s : State) (x : BusAccess) : (s.record x).mode = s.mode := rfl
@[simp] theorem State.mem_record (s : State) (x : BusAccess) : (s.record x).mem = s.mem := rfl
@[simp] theorem State.bus_record (s : State) (x : BusAccess) : (s.record x).bus = s.bus := rfl
@[simp] theorem State.busLog_record (s : State) (x : BusAccess) :
    (s.record x).busLog = s.busLog.map (fun l => l ++ [x]) := rfl
@[simp] theorem State.irqRequests_record (s : State) (x : BusAccess) : (s.record x).irqRequests = s.irqRequests := rfl
@[simp] theorem State.inputs_record (s : State) (x : BusAccess) : (s.record x).inputs = s.inputs := rfl
@[simp] theorem State.config_record (s : State) (x : BusAccess) : (s.record x).config = s.config := rfl

/-! ### memWrite -/

@[simp] theorem State.a_memWrite (s : State) (x : Word) (v : Byte) : (s.memWrite x v).a = s.a := rfl
@[simp] theorem State.f_memWrite (s : State) (x : Word) (v : Byte) : (s.memWrite x v).f = s.f := rfl
@[simp] theorem State.b_memWrite (s : State) (x : Word) (v : Byte) : (s.memWrite x v).b = s.b := rfl
@[simp] theorem State.c_memWrite (s : State) (x : Word) (v : Byte) : (s.memWrite x v).c = s.c := rfl
@[simp] theorem State.d_memWrite (s : State) (x : Word) (v : Byte) : (s.memWrite x v).d = s.d := rfl
@[simp] theorem State.e_memWrite (s : State) (x : Word) (v : Byte) : (s.memWrite x v).e = s.e := rfl
@[simp] theorem State.h_memWrite (s : State) (x : Word) (v : Byte) : (s.memWrite x v).h = s.h := rfl
@[simp] theorem State.l_memWrite (s : State) (x : Word) (v : Byte) : (s.memWrite x v).l = s.l := rfl
@[simp] theorem State.sp_memWrite (s : State) (x : Word) (v : Byte) : (s.memWrite x v).sp = s.sp := rfl
@[simp] theorem State.pc_memWrite (s : State) (x : Word) (v : Byte) : (s.memWrite x v).pc = s.pc := rfl
@[simp] theorem State.ime_memWrite (s : State) (x : Word) (v : Byte) : (s.memWrite x v).ime = s.ime := rfl
@[simp] theorem State.eiPending_memWrite (s : State) (x : Word) (v : Byte) :
    (s.memWrite x v).eiPending = s.eiPending := rfl
@[simp] theorem State.mode_memWrite (s : State) (x : Word) (v : Byte) : (s.memWrite x v).mode = s.mode := rfl
@[simp] theorem State.mem_memWrite (s : State) (x : Word) (v : Byte) :
    (s.memWrite x v).mem = if s.onPlatform x then s.mem else (s.poke x v).mem := rfl
@[simp] theorem State.bus_memWrite (s : State) (x : Word) (v : Byte) :
    (s.memWrite x v).bus = if s.onPlatform x then Config.busWrite s.bus x v else s.bus := rfl
@[simp] theorem State.busLog_memWrite (s : State) (x : Word) (v : Byte) :
    (s.memWrite x v).busLog = s.busLog.map (fun l => l ++ [.write x v]) := rfl
@[simp] theorem State.irqRequests_memWrite (s : State) (x : Word) (v : Byte) :
    (s.memWrite x v).irqRequests = s.irqRequests := rfl
@[simp] theorem State.inputs_memWrite (s : State) (x : Word) (v : Byte) : (s.memWrite x v).inputs = s.inputs := rfl
@[simp] theorem State.config_memWrite (s : State) (x : Word) (v : Byte) : (s.memWrite x v).config = s.config := rfl

/-! ### memRead -/

@[simp] theorem State.a_memRead (s : State) (x : Word) : ((s.memRead x).2).a = s.a := rfl
@[simp] theorem State.f_memRead (s : State) (x : Word) : ((s.memRead x).2).f = s.f := rfl
@[simp] theorem State.b_memRead (s : State) (x : Word) : ((s.memRead x).2).b = s.b := rfl
@[simp] theorem State.c_memRead (s : State) (x : Word) : ((s.memRead x).2).c = s.c := rfl
@[simp] theorem State.d_memRead (s : State) (x : Word) : ((s.memRead x).2).d = s.d := rfl
@[simp] theorem State.e_memRead (s : State) (x : Word) : ((s.memRead x).2).e = s.e := rfl
@[simp] theorem State.h_memRead (s : State) (x : Word) : ((s.memRead x).2).h = s.h := rfl
@[simp] theorem State.l_memRead (s : State) (x : Word) : ((s.memRead x).2).l = s.l := rfl
@[simp] theorem State.sp_memRead (s : State) (x : Word) : ((s.memRead x).2).sp = s.sp := rfl
@[simp] theorem State.pc_memRead (s : State) (x : Word) : ((s.memRead x).2).pc = s.pc := rfl
@[simp] theorem State.ime_memRead (s : State) (x : Word) : ((s.memRead x).2).ime = s.ime := rfl
@[simp] theorem State.eiPending_memRead (s : State) (x : Word) : ((s.memRead x).2).eiPending = s.eiPending := rfl
@[simp] theorem State.mode_memRead (s : State) (x : Word) : ((s.memRead x).2).mode = s.mode := rfl
@[simp] theorem State.mem_memRead (s : State) (x : Word) : ((s.memRead x).2).mem = s.mem := rfl
@[simp] theorem State.bus_memRead (s : State) (x : Word) :
    ((s.memRead x).2).bus = if s.onPlatform x then (Config.busRead s.bus x).2 else s.bus := rfl
@[simp] theorem State.busLog_memRead (s : State) (x : Word) :
    ((s.memRead x).2).busLog = s.busLog.map (fun l => l ++ [.read x (s.peek x)]) := rfl
@[simp] theorem State.irqRequests_memRead (s : State) (x : Word) :
    ((s.memRead x).2).irqRequests = s.irqRequests := rfl
@[simp] theorem State.inputs_memRead (s : State) (x : Word) : ((s.memRead x).2).inputs = s.inputs := rfl
@[simp] theorem State.config_memRead (s : State) (x : Word) : ((s.memRead x).2).config = s.config := rfl

/-! ### acknowledge -/

@[simp] theorem State.a_acknowledge (s : State) (i : Nat) : (s.acknowledge i).a = s.a := rfl
@[simp] theorem State.f_acknowledge (s : State) (i : Nat) : (s.acknowledge i).f = s.f := rfl
@[simp] theorem State.b_acknowledge (s : State) (i : Nat) : (s.acknowledge i).b = s.b := rfl
@[simp] theorem State.c_acknowledge (s : State) (i : Nat) : (s.acknowledge i).c = s.c := rfl
@[simp] theorem State.d_acknowledge (s : State) (i : Nat) : (s.acknowledge i).d = s.d := rfl
@[simp] theorem State.e_acknowledge (s : State) (i : Nat) : (s.acknowledge i).e = s.e := rfl
@[simp] theorem State.h_acknowledge (s : State) (i : Nat) : (s.acknowledge i).h = s.h := rfl
@[simp] theorem State.l_acknowledge (s : State) (i : Nat) : (s.acknowledge i).l = s.l := rfl
@[simp] theorem State.sp_acknowledge (s : State) (i : Nat) : (s.acknowledge i).sp = s.sp := rfl
@[simp] theorem State.pc_acknowledge (s : State) (i : Nat) : (s.acknowledge i).pc = s.pc := rfl
@[simp] theorem State.ime_acknowledge (s : State) (i : Nat) : (s.acknowledge i).ime = s.ime := rfl
@[simp] theorem State.eiPending_acknowledge (s : State) (i : Nat) : (s.acknowledge i).eiPending = s.eiPending := rfl
@[simp] theorem State.mode_acknowledge (s : State) (i : Nat) : (s.acknowledge i).mode = s.mode := rfl
@[simp] theorem State.mem_acknowledge (s : State) (i : Nat) :
    (s.acknowledge i).mem = s.mem.write ifAddress.toNat (s.mem.read ifAddress.toNat &&& ~~~(1#8 <<< i)) := rfl
@[simp] theorem State.bus_acknowledge (s : State) (i : Nat) : (s.acknowledge i).bus = s.bus := rfl
@[simp] theorem State.busLog_acknowledge (s : State) (i : Nat) : (s.acknowledge i).busLog = s.busLog := rfl
@[simp] theorem State.irqRequests_acknowledge (s : State) (i : Nat) :
    (s.acknowledge i).irqRequests = s.irqRequests := rfl
@[simp] theorem State.inputs_acknowledge (s : State) (i : Nat) : (s.acknowledge i).inputs = s.inputs := rfl
@[simp] theorem State.config_acknowledge (s : State) (i : Nat) : (s.acknowledge i).config = s.config := rfl

/-! ### Registers by name -/

@[simp] theorem State.reg_b (s : State) : s.reg .b = s.b := rfl
@[simp] theorem State.reg_c (s : State) : s.reg .c = s.c := rfl
@[simp] theorem State.reg_d (s : State) : s.reg .d = s.d := rfl
@[simp] theorem State.reg_e (s : State) : s.reg .e = s.e := rfl
@[simp] theorem State.reg_h (s : State) : s.reg .h = s.h := rfl
@[simp] theorem State.reg_l (s : State) : s.reg .l = s.l := rfl
@[simp] theorem State.reg_a (s : State) : s.reg .a = s.a := rfl

/-! ### setReg -/

@[simp] theorem State.f_setReg (s : State) (r : Reg8) (v : Byte) : (s.setReg r v).f = s.f := by cases r <;> rfl
@[simp] theorem State.sp_setReg (s : State) (r : Reg8) (v : Byte) : (s.setReg r v).sp = s.sp := by cases r <;> rfl
@[simp] theorem State.pc_setReg (s : State) (r : Reg8) (v : Byte) : (s.setReg r v).pc = s.pc := by cases r <;> rfl
@[simp] theorem State.ime_setReg (s : State) (r : Reg8) (v : Byte) : (s.setReg r v).ime = s.ime := by cases r <;> rfl
@[simp] theorem State.eiPending_setReg (s : State) (r : Reg8) (v : Byte) : (s.setReg r v).eiPending = s.eiPending := by cases r <;> rfl
@[simp] theorem State.mode_setReg (s : State) (r : Reg8) (v : Byte) : (s.setReg r v).mode = s.mode := by cases r <;> rfl
@[simp] theorem State.mem_setReg (s : State) (r : Reg8) (v : Byte) : (s.setReg r v).mem = s.mem := by cases r <;> rfl
@[simp] theorem State.bus_setReg (s : State) (r : Reg8) (v : Byte) : (s.setReg r v).bus = s.bus := by cases r <;> rfl
@[simp] theorem State.busLog_setReg (s : State) (r : Reg8) (v : Byte) : (s.setReg r v).busLog = s.busLog := by cases r <;> rfl
@[simp] theorem State.irqRequests_setReg (s : State) (r : Reg8) (v : Byte) : (s.setReg r v).irqRequests = s.irqRequests := by cases r <;> rfl
@[simp] theorem State.inputs_setReg (s : State) (r : Reg8) (v : Byte) : (s.setReg r v).inputs = s.inputs := by cases r <;> rfl
@[simp] theorem State.config_setReg (s : State) (r : Reg8) (v : Byte) : (s.setReg r v).config = s.config := by cases r <;> rfl

/-- A register read after a register write. -/
@[simp] theorem State.reg_setReg (s : State) (r q : Reg8) (v : Byte) :
    (s.setReg r v).reg q = if q = r then v else s.reg q := by
  cases r <;> cases q <;> rfl

/-! ### setPair and setStackPair -/

@[simp] theorem State.a_setPair (s : State) (r : Reg16) (v : Word) : (s.setPair r v).a = s.a := by cases r <;> rfl
@[simp] theorem State.f_setPair (s : State) (r : Reg16) (v : Word) : (s.setPair r v).f = s.f := by cases r <;> rfl
@[simp] theorem State.pc_setPair (s : State) (r : Reg16) (v : Word) : (s.setPair r v).pc = s.pc := by cases r <;> rfl
@[simp] theorem State.ime_setPair (s : State) (r : Reg16) (v : Word) : (s.setPair r v).ime = s.ime := by cases r <;> rfl
@[simp] theorem State.eiPending_setPair (s : State) (r : Reg16) (v : Word) : (s.setPair r v).eiPending = s.eiPending := by cases r <;> rfl
@[simp] theorem State.mode_setPair (s : State) (r : Reg16) (v : Word) : (s.setPair r v).mode = s.mode := by cases r <;> rfl
@[simp] theorem State.mem_setPair (s : State) (r : Reg16) (v : Word) : (s.setPair r v).mem = s.mem := by cases r <;> rfl
@[simp] theorem State.bus_setPair (s : State) (r : Reg16) (v : Word) : (s.setPair r v).bus = s.bus := by cases r <;> rfl
@[simp] theorem State.busLog_setPair (s : State) (r : Reg16) (v : Word) : (s.setPair r v).busLog = s.busLog := by cases r <;> rfl
@[simp] theorem State.irqRequests_setPair (s : State) (r : Reg16) (v : Word) : (s.setPair r v).irqRequests = s.irqRequests := by cases r <;> rfl
@[simp] theorem State.inputs_setPair (s : State) (r : Reg16) (v : Word) : (s.setPair r v).inputs = s.inputs := by cases r <;> rfl
@[simp] theorem State.config_setPair (s : State) (r : Reg16) (v : Word) : (s.setPair r v).config = s.config := by cases r <;> rfl
@[simp] theorem State.sp_setStackPair (s : State) (r : StackReg) (v : Word) : (s.setStackPair r v).sp = s.sp := by
  cases r <;> rfl
@[simp] theorem State.pc_setStackPair (s : State) (r : StackReg) (v : Word) : (s.setStackPair r v).pc = s.pc := by
  cases r <;> rfl
@[simp] theorem State.ime_setStackPair (s : State) (r : StackReg) (v : Word) : (s.setStackPair r v).ime = s.ime := by
  cases r <;> rfl
@[simp] theorem State.eiPending_setStackPair (s : State) (r : StackReg) (v : Word) : (s.setStackPair r v).eiPending = s.eiPending := by
  cases r <;> rfl
@[simp] theorem State.mode_setStackPair (s : State) (r : StackReg) (v : Word) : (s.setStackPair r v).mode = s.mode := by
  cases r <;> rfl
@[simp] theorem State.mem_setStackPair (s : State) (r : StackReg) (v : Word) : (s.setStackPair r v).mem = s.mem := by
  cases r <;> rfl
@[simp] theorem State.bus_setStackPair (s : State) (r : StackReg) (v : Word) : (s.setStackPair r v).bus = s.bus := by
  cases r <;> rfl
@[simp] theorem State.busLog_setStackPair (s : State) (r : StackReg) (v : Word) : (s.setStackPair r v).busLog = s.busLog := by
  cases r <;> rfl
@[simp] theorem State.irqRequests_setStackPair (s : State) (r : StackReg) (v : Word) : (s.setStackPair r v).irqRequests = s.irqRequests := by
  cases r <;> rfl
@[simp] theorem State.inputs_setStackPair (s : State) (r : StackReg) (v : Word) : (s.setStackPair r v).inputs = s.inputs := by
  cases r <;> rfl
@[simp] theorem State.config_setStackPair (s : State) (r : StackReg) (v : Word) : (s.setStackPair r v).config = s.config := by
  cases r <;> rfl

/-! ### Reading a register after an update that leaves the registers alone -/

@[simp] theorem State.reg_setSp (s : State) (v : Word) (r : Reg8) :
    (s.setSp v).reg r = s.reg r := by cases r <;> rfl
@[simp] theorem State.reg_setF (s : State) (v : Byte) (r : Reg8) :
    (s.setF v).reg r = s.reg r := by cases r <;> rfl
@[simp] theorem State.reg_setFlags (s : State) (z n h c : Bool) (r : Reg8) :
    (s.setFlags z n h c).reg r = s.reg r := by cases r <;> rfl
@[simp] theorem State.reg_advance (s : State) (n : Word) (r : Reg8) :
    (s.advance n).reg r = s.reg r := by cases r <;> rfl
@[simp] theorem State.reg_jump (s : State) (w : Word) (r : Reg8) :
    (s.jump w).reg r = s.reg r := by cases r <;> rfl
@[simp] theorem State.reg_poke (s : State) (x : Word) (v : Byte) (r : Reg8) :
    (s.poke x v).reg r = s.reg r := by cases r <;> rfl
@[simp] theorem State.reg_record (s : State) (x : BusAccess) (r : Reg8) :
    (s.record x).reg r = s.reg r := by cases r <;> rfl
@[simp] theorem State.reg_memWrite (s : State) (x : Word) (v : Byte) (r : Reg8) :
    (s.memWrite x v).reg r = s.reg r := by cases r <;> rfl
@[simp] theorem State.reg_memRead (s : State) (x : Word) (r : Reg8) :
    ((s.memRead x).2).reg r = s.reg r := by cases r <;> rfl
@[simp] theorem State.reg_acknowledge (s : State) (i : Nat) (r : Reg8) :
    (s.acknowledge i).reg r = s.reg r := by cases r <;> rfl

end Sys2Proof.Machine
end

