-- ==== Sys2Proof/Laws/Bus.lean ====
section
/-! SUPPORT. What the bus, the stack, the fetch and the interrupt operations can do, one lemma for each. -/

namespace Sys2Proof.Machine

/-! ### The bus -/

theorem State.highBitsFixed_congr {s t : State} (hc : t.config = s.config) (b : Word) :
    t.highBitsFixed b = s.highBitsFixed b := by
  unfold State.highBitsFixed
  rw [hc]

theorem State.onPlatform_congr {s t : State} (hc : t.config = s.config) (b : Word) :
    t.onPlatform b = s.onPlatform b := by
  unfold State.onPlatform State.isIrqRegister
  rw [hc]

/-- With FlatRAM no access goes to the platform's own bus (R73). -/
theorem State.onPlatform_flat {s : State} (h : s.config.bus = .flatRam) (b : Word) : s.onPlatform b = false := by
  unfold State.onPlatform
  rw [h]

/-- What a location holds depends on the memory, the state of the platform's bus and the parameters alone. -/
theorem State.peek_congr {s t : State} (hm : t.mem = s.mem) (hb : t.bus = s.bus) (hc : t.config = s.config)
    (b : Word) : t.peek b = s.peek b := by
  unfold State.peek
  rw [onPlatform_congr hc, highBitsFixed_congr hc, hm, hb]

/-- Away from the platform's own bus a location depends on the memory and the parameters alone. -/
theorem State.peek_congr_off {s t : State} {b : Word} (h : s.onPlatform b = false) (hm : t.mem = s.mem)
    (hc : t.config = s.config) : t.peek b = s.peek b := by
  unfold State.peek
  rw [onPlatform_congr hc, highBitsFixed_congr hc, hm, h]
  rfl

theorem State.latched_congr {s t : State} (hc : t.config = s.config) (b : Word) (v : Byte) :
    t.latched b v = s.latched b v := by
  unfold State.latched
  rw [highBitsFixed_congr hc]

@[simp] theorem State.peek_setReg (s : State) (r : Reg8) (v : Byte) (y : Word) : (s.setReg r v).peek y = s.peek y :=
  peek_congr (by simp) (by simp) (by simp) y

@[simp] theorem State.peek_setBc (s : State) (v : Word) (y : Word) : (s.setBc v).peek y = s.peek y :=
  peek_congr (by simp) (by simp) (by simp) y

@[simp] theorem State.peek_setDe (s : State) (v : Word) (y : Word) : (s.setDe v).peek y = s.peek y :=
  peek_congr (by simp) (by simp) (by simp) y

@[simp] theorem State.peek_setHl (s : State) (v : Word) (y : Word) : (s.setHl v).peek y = s.peek y :=
  peek_congr (by simp) (by simp) (by simp) y

@[simp] theorem State.peek_setSp (s : State) (v : Word) (y : Word) : (s.setSp v).peek y = s.peek y :=
  peek_congr (by simp) (by simp) (by simp) y

@[simp] theorem State.peek_setF (s : State) (v : Byte) (y : Word) : (s.setF v).peek y = s.peek y :=
  peek_congr (by simp) (by simp) (by simp) y

@[simp] theorem State.peek_setAf (s : State) (v : Word) (y : Word) : (s.setAf v).peek y = s.peek y :=
  peek_congr (by simp) (by simp) (by simp) y

@[simp] theorem State.peek_setFlags (s : State) (z n h c : Bool) (y : Word) : (s.setFlags z n h c).peek y = s.peek y :=
  peek_congr (by simp) (by simp) (by simp) y

@[simp] theorem State.peek_advance (s : State) (n : Word) (y : Word) : (s.advance n).peek y = s.peek y :=
  peek_congr (by simp) (by simp) (by simp) y

@[simp] theorem State.peek_jump (s : State) (w : Word) (y : Word) : (s.jump w).peek y = s.peek y :=
  peek_congr (by simp) (by simp) (by simp) y

@[simp] theorem State.peek_record (s : State) (x : BusAccess) (y : Word) : (s.record x).peek y = s.peek y :=
  peek_congr (by simp) (by simp) (by simp) y

/-- A read away from the platform's own bus changes the record alone (R73). -/
theorem State.memRead_off {s : State} {x : Word} (h : s.onPlatform x = false) :
    s.memRead x = (s.peek x, s.record (.read x (s.peek x))) := by
  simp only [memRead, h, Bool.false_eq_true, if_false]

/-- A read of FlatRAM changes the record alone (R73). -/
theorem State.memRead_flat {s : State} (h : s.config.bus = .flatRam) (x : Word) :
    s.memRead x = (s.peek x, s.record (.read x (s.peek x))) :=
  memRead_off (onPlatform_flat h x)

/-- A read changes no location away from the platform's own bus. -/
theorem State.peek_memRead {s : State} {y : Word} (h : s.onPlatform y = false) (x : Word) :
    ((s.memRead x).2).peek y = s.peek y :=
  peek_congr_off h (by simp) (by simp)

/-- A write to FlatRAM replaces one byte (R73). -/
theorem State.memWrite_flat {s : State} (h : s.config.bus = .flatRam) (x : Word) (v : Byte) :
    s.memWrite x v = (s.poke x v).record (.write x v) := by
  simp only [memWrite, onPlatform_flat h, Bool.false_eq_true, if_false]
  rfl

theorem State.peek_poke {s : State} {b : Word} (h : s.onPlatform b = false) (a : Word) (v : Byte) :
    (s.poke a v).peek b = if b = a then s.latched a v else s.peek b := by
  have hp : (s.poke a v).onPlatform b = false := h
  have hc : (s.poke a v).highBitsFixed b = s.highBitsFixed b := highBitsFixed_congr rfl b
  have mask : ∀ v : Byte, v &&& 0x1F ||| 0xE0 = v ||| 0xE0 := by decide +kernel
  simp only [peek, latched, hc, h, hp, mem_poke, Memory.read_write, Bool.false_eq_true, if_false]
  by_cases hb : b = a
  · subst hb
    cases s.highBitsFixed b
    · simp
    · simpa using mask v
  · have hn : b.toNat ≠ a.toNat := fun h => hb (BitVec.eq_of_toNat_eq h)
    simp [hb, hn]

/-- Away from the platform's own bus a write changes the location written, to what that location latches, and no
other (R73). -/
theorem State.peek_memWrite {s : State} {b : Word} (h : s.onPlatform b = false) (a : Word) (v : Byte) :
    (s.memWrite a v).peek b = if b = a then s.latched a v else s.peek b := by
  cases ha : s.onPlatform a with
  | true =>
    have hne : b ≠ a := fun e => by rw [e, ha] at h; cases h
    rw [if_neg hne]
    exact peek_congr_off h (by simp only [mem_memWrite, ha, if_true]) rfl
  | false =>
    rw [← peek_poke h]
    exact peek_congr_off (s := s.poke a v) h (by simp only [mem_memWrite, ha, Bool.false_eq_true, if_false]) rfl

@[simp] theorem State.latched_memWrite (s : State) (a b : Word) (v w : Byte) :
    (s.memWrite a v).latched b w = s.latched b w := rfl

@[simp] theorem State.latched_setSp (s : State) (v : Word) (b : Word) (w : Byte) :
    (s.setSp v).latched b w = s.latched b w := rfl

/-- Outside the Game Boy instance a location latches what is written to it (R73). -/
theorem State.latched_flat {s : State} (h : s.config.irq ≠ .gameBoy) (a : Word) (v : Byte) : s.latched a v = v := by
  unfold latched highBitsFixed
  cases hi : s.config.irq <;> simp_all

@[simp] theorem State.memRead_fst (s : State) (a : Word) : (s.memRead a).1 = s.peek a := rfl

/-! ### Words made of two bytes -/

theorem joinBytes_toNat (x y : Byte) : (joinBytes x y).toNat = 256 * x.toNat + y.toNat := by
  rw [joinBytes, BitVec.toNat_append, ← Nat.shiftLeft_add_eq_or_of_lt y.isLt, Nat.shiftLeft_eq]
  omega

theorem highByte_toNat (v : Word) : (highByte v).toNat = v.toNat / 256 := by
  simp [highByte, BitVec.extractLsb'_toNat, Nat.shiftRight_eq_div_pow]
  omega

theorem lowByte_toNat (v : Word) : (lowByte v).toNat = v.toNat % 256 := by
  simp [lowByte, BitVec.extractLsb'_toNat]

@[simp] theorem highByte_joinBytes (x y : Byte) : highByte (joinBytes x y) = x := by
  apply BitVec.eq_of_toNat_eq
  rw [highByte_toNat, joinBytes_toNat]
  omega

@[simp] theorem lowByte_joinBytes (x y : Byte) : lowByte (joinBytes x y) = y := by
  apply BitVec.eq_of_toNat_eq
  rw [lowByte_toNat, joinBytes_toNat]
  omega

@[simp] theorem joinBytes_high_low (v : Word) : joinBytes (highByte v) (lowByte v) = v := by
  apply BitVec.eq_of_toNat_eq
  rw [joinBytes_toNat, highByte_toNat, lowByte_toNat]
  omega

/-! ### The stack -/

/-- PUSH16: what the new state is, but for the memory (R221). -/
theorem State.push16_eq (s : State) (v : Word) :
    s.push16 v = { s with
      sp := s.sp - 2
      mem := (s.push16 v).mem
      bus := (s.push16 v).bus
      busLog := s.busLog.map (fun l => l ++ [.write (s.sp - 1) (highByte v), .write (s.sp - 2) (lowByte v)]) } := by
  have h : s.sp - 1 - 1 = s.sp - 2 := by bv_omega
  have hl : (s.push16 v).busLog = (s.busLog.map (fun l => l ++ [.write (s.sp - 1) (highByte v)])).map
      (fun l => l ++ [.write (s.sp - 1 - 1) (lowByte v)]) := by
    simp only [push16, busLog_memWrite, busLog_setSp, sp_memWrite, sp_setSp]
  have hs : (s.push16 v).sp = s.sp - 1 - 1 := by simp only [push16, sp_memWrite, sp_setSp]
  apply State.ext
  case sp => rw [hs, h]
  case busLog => rw [hl, h]; cases s.busLog <;> simp
  case mem => dsimp only
  case bus => dsimp only
  all_goals simp only [push16, State.memWrite, State.record, State.setSp]

/-- PUSH16 is two bus writes, the high byte's first (R221). -/
theorem State.push16_writes (s : State) (v : Word) :
    s.push16 v = { (s.memWrite (s.sp - 1) (highByte v)).memWrite (s.sp - 2) (lowByte v) with sp := s.sp - 2 } := by
  have h : s.sp - 1 - 1 = s.sp - 2 := by bv_omega
  simp only [push16, sp_memWrite, sp_setSp, h]
  rfl

/-- PUSH16 away from the platform's own bus: the two locations it writes, and every other location (R221). -/
theorem State.peek_push16 {s : State} {b : Word} (hb : s.onPlatform b = false) (v : Word) :
    (s.push16 v).peek b =
      if b = s.sp - 2 then s.latched b (lowByte v)
      else if b = s.sp - 1 then s.latched b (highByte v) else s.peek b := by
  have h1 : (s.memWrite (s.sp - 1) (highByte v)).onPlatform b = false := hb
  rw [push16_writes]
  show ((s.memWrite (s.sp - 1) (highByte v)).memWrite (s.sp - 2) (lowByte v)).peek b = _
  rw [peek_memWrite h1, peek_memWrite hb, latched_memWrite]
  split
  · rename_i e; rw [e]
  · split
    · rename_i e; rw [e]
    · rfl

theorem State.wf_push16 {s : State} (v : Word) (h : s.mem.wf = true) : (s.push16 v).mem.wf = true :=
  wf_memWrite _ _ (wf_memWrite _ _ h)

/-- POP16 is two bus reads, the low byte's first, and the value made of them (R221). -/
theorem State.pop16_reads (s : State) :
    s.pop16 =
      (joinBytes ((s.memRead s.sp).2.memRead (s.sp + 1)).1 (s.memRead s.sp).1,
        { ((s.memRead s.sp).2.memRead (s.sp + 1)).2 with sp := s.sp + 2 }) := by
  have h : s.sp + 1 + 1 = s.sp + 2 := by bv_omega
  simp only [pop16, sp_memRead, sp_setSp, h]
  rfl

/-- POP16 on FlatRAM: the value and the new state (R221). -/
theorem State.pop16_eq {s : State} (hs : s.config.bus = .flatRam) :
    s.pop16 = (joinBytes (s.peek (s.sp + 1)) (s.peek s.sp),
      { s with
        sp := s.sp + 2
        busLog := s.busLog.map (fun l =>
          l ++ [.read s.sp (s.peek s.sp), .read (s.sp + 1) (s.peek (s.sp + 1))]) }) := by
  have h1 : (s.record (.read s.sp (s.peek s.sp))).config.bus = .flatRam := hs
  rw [pop16_reads, memRead_flat hs]
  dsimp only
  rw [memRead_flat h1, peek_record]
  simp only [record]
  cases s.busLog <;> simp

/-! ### The fields after a push and after a pop -/

@[simp] theorem State.a_push16 (s : State) (v : Word) : (s.push16 v).a = s.a := by
  simp only [push16, a_memWrite, a_setSp]
@[simp] theorem State.f_push16 (s : State) (v : Word) : (s.push16 v).f = s.f := by
  simp only [push16, f_memWrite, f_setSp]
@[simp] theorem State.b_push16 (s : State) (v : Word) : (s.push16 v).b = s.b := by
  simp only [push16, b_memWrite, b_setSp]
@[simp] theorem State.c_push16 (s : State) (v : Word) : (s.push16 v).c = s.c := by
  simp only [push16, c_memWrite, c_setSp]
@[simp] theorem State.d_push16 (s : State) (v : Word) : (s.push16 v).d = s.d := by
  simp only [push16, d_memWrite, d_setSp]
@[simp] theorem State.e_push16 (s : State) (v : Word) : (s.push16 v).e = s.e := by
  simp only [push16, e_memWrite, e_setSp]
@[simp] theorem State.h_push16 (s : State) (v : Word) : (s.push16 v).h = s.h := by
  simp only [push16, h_memWrite, h_setSp]
@[simp] theorem State.l_push16 (s : State) (v : Word) : (s.push16 v).l = s.l := by
  simp only [push16, l_memWrite, l_setSp]
@[simp] theorem State.pc_push16 (s : State) (v : Word) : (s.push16 v).pc = s.pc := by
  simp only [push16, pc_memWrite, pc_setSp]
@[simp] theorem State.ime_push16 (s : State) (v : Word) : (s.push16 v).ime = s.ime := by
  simp only [push16, ime_memWrite, ime_setSp]
@[simp] theorem State.eiPending_push16 (s : State) (v : Word) : (s.push16 v).eiPending = s.eiPending := by
  simp only [push16, eiPending_memWrite, eiPending_setSp]
@[simp] theorem State.mode_push16 (s : State) (v : Word) : (s.push16 v).mode = s.mode := by
  simp only [push16, mode_memWrite, mode_setSp]
@[simp] theorem State.irqRequests_push16 (s : State) (v : Word) : (s.push16 v).irqRequests = s.irqRequests := by
  simp only [push16, irqRequests_memWrite, irqRequests_setSp]
@[simp] theorem State.inputs_push16 (s : State) (v : Word) : (s.push16 v).inputs = s.inputs := by
  simp only [push16, inputs_memWrite, inputs_setSp]
@[simp] theorem State.config_push16 (s : State) (v : Word) : (s.push16 v).config = s.config := by
  simp only [push16, config_memWrite, config_setSp]
@[simp] theorem State.sp_push16 (s : State) (v : Word) : (s.push16 v).sp = s.sp - 2 := by rw [push16_eq]
@[simp] theorem State.a_pop16 (s : State) : s.pop16.2.a = s.a := by
  simp only [pop16, a_memRead, a_setSp]
@[simp] theorem State.f_pop16 (s : State) : s.pop16.2.f = s.f := by
  simp only [pop16, f_memRead, f_setSp]
@[simp] theorem State.b_pop16 (s : State) : s.pop16.2.b = s.b := by
  simp only [pop16, b_memRead, b_setSp]
@[simp] theorem State.c_pop16 (s : State) : s.pop16.2.c = s.c := by
  simp only [pop16, c_memRead, c_setSp]
@[simp] theorem State.d_pop16 (s : State) : s.pop16.2.d = s.d := by
  simp only [pop16, d_memRead, d_setSp]
@[simp] theorem State.e_pop16 (s : State) : s.pop16.2.e = s.e := by
  simp only [pop16, e_memRead, e_setSp]
@[simp] theorem State.h_pop16 (s : State) : s.pop16.2.h = s.h := by
  simp only [pop16, h_memRead, h_setSp]
@[simp] theorem State.l_pop16 (s : State) : s.pop16.2.l = s.l := by
  simp only [pop16, l_memRead, l_setSp]
@[simp] theorem State.pc_pop16 (s : State) : s.pop16.2.pc = s.pc := by
  simp only [pop16, pc_memRead, pc_setSp]
@[simp] theorem State.ime_pop16 (s : State) : s.pop16.2.ime = s.ime := by
  simp only [pop16, ime_memRead, ime_setSp]
@[simp] theorem State.eiPending_pop16 (s : State) : s.pop16.2.eiPending = s.eiPending := by
  simp only [pop16, eiPending_memRead, eiPending_setSp]
@[simp] theorem State.mode_pop16 (s : State) : s.pop16.2.mode = s.mode := by
  simp only [pop16, mode_memRead, mode_setSp]
@[simp] theorem State.irqRequests_pop16 (s : State) : s.pop16.2.irqRequests = s.irqRequests := by
  simp only [pop16, irqRequests_memRead, irqRequests_setSp]
@[simp] theorem State.inputs_pop16 (s : State) : s.pop16.2.inputs = s.inputs := by
  simp only [pop16, inputs_memRead, inputs_setSp]
@[simp] theorem State.config_pop16 (s : State) : s.pop16.2.config = s.config := by
  simp only [pop16, config_memRead, config_setSp]
@[simp] theorem State.mem_pop16 (s : State) : s.pop16.2.mem = s.mem := by
  simp only [pop16, mem_memRead, mem_setSp]
@[simp] theorem State.sp_pop16 (s : State) : s.pop16.2.sp = s.sp + 2 := by rw [pop16_reads]
@[simp] theorem State.reg_push16 (s : State) (v : Word) (r : Reg8) : (s.push16 v).reg r = s.reg r := by
  simp only [push16, reg_memWrite, reg_setSp]
@[simp] theorem State.reg_pop16 (s : State) (r : Reg8) : s.pop16.2.reg r = s.reg r := by
  simp only [pop16, reg_memRead, reg_setSp]
theorem State.peek_pop16 {s : State} {y : Word} (h : s.onPlatform y = false) : s.pop16.2.peek y = s.peek y :=
  peek_congr_off h (by simp) (by simp)
@[simp] theorem State.busLog_push16 (s : State) (v : Word) : (s.push16 v).busLog =
    s.busLog.map (fun l => l ++ [.write (s.sp - 1) (highByte v), .write (s.sp - 2) (lowByte v)]) := by rw [push16_eq]
theorem State.busLog_pop16 {s : State} (hs : s.config.bus = .flatRam) : s.pop16.2.busLog =
    s.busLog.map (fun l => l ++ [.read s.sp (s.peek s.sp), .read (s.sp + 1) (s.peek (s.sp + 1))]) := by
  rw [pop16_eq hs]
@[simp] theorem State.peek_setPair (s : State) (r : Reg16) (v y : Word) : (s.setPair r v).peek y = s.peek y :=
  peek_congr (by simp) (by simp) (by simp) y
@[simp] theorem State.peek_setStackPair (s : State) (r : StackReg) (v y : Word) :
    (s.setStackPair r v).peek y = s.peek y :=
  peek_congr (by simp) (by simp) (by simp) y

/-! ### The fetch -/

/-- The fetch by its bus reads: one, two or three from pc on (R91). -/
theorem State.fetch_reads (s : State) :
    s.fetch =
      let r := s.memRead s.pc
      let p := r.2.memRead (s.pc + 1)
      let q := p.2.memRead (s.pc + 2)
      match opcodeRow (s.peek s.pc) with
      | .op i => (i, r.2)
      | .operand8 form => (form p.1, p.2)
      | .operand16 form => (form (joinBytes q.1 p.1), q.2) := by
  cases h : opcodeRow (s.peek s.pc) <;> simp only [fetch, memRead, h]

/-- The fetch from FlatRAM reads one, two or three bytes from pc on and nothing else (R91); pc stays. -/
theorem State.fetch_eq {s : State} (hs : s.config.bus = .flatRam) :
    s.fetch = match opcodeRow (s.peek s.pc) with
      | .op i => (i, s.record (.read s.pc (s.peek s.pc)))
      | .operand8 form =>
        (form (s.peek (s.pc + 1)),
          (s.record (.read s.pc (s.peek s.pc))).record (.read (s.pc + 1) (s.peek (s.pc + 1))))
      | .operand16 form =>
        (form (joinBytes (s.peek (s.pc + 2)) (s.peek (s.pc + 1))),
          ((s.record (.read s.pc (s.peek s.pc))).record (.read (s.pc + 1) (s.peek (s.pc + 1)))).record
            (.read (s.pc + 2) (s.peek (s.pc + 2)))) := by
  have h1 : ∀ x : BusAccess, (s.record x).config.bus = .flatRam := fun _ => hs
  have h2 : ∀ x y : BusAccess, ((s.record x).record y).config.bus = .flatRam := fun _ _ => hs
  simp only [fetch_reads, memRead_flat hs, memRead_flat (h1 _), memRead_flat (h2 _ _), peek_record]

/-- The fetch changes the state of the platform's bus and the record of accesses, and nothing else. -/
theorem State.fetch_state (s : State) : s.fetch.2 = { s with bus := s.fetch.2.bus, busLog := s.fetch.2.busLog } := by
  rw [fetch_reads]
  cases opcodeRow (s.peek s.pc) <;> rfl

/-! ### The interrupt interface -/

/-- There is a source to select exactly where one is requested and enabled (R506). -/
theorem State.irqSelect_isSome (s : State) : s.irqSelect.isSome = s.irqRequested := by
  have key : ∀ p : Byte, (p &&& 0x1F = p) → (lowestSource p).isSome = decide (p ≠ 0) := by decide +kernel
  have hp : s.pendingSources &&& 0x1F = s.pendingSources := by
    simp only [pendingSources]; rw [BitVec.and_assoc]; rfl
  unfold irqSelect irqRequested
  cases s.config.irq with
  | noInterrupts => rfl
  | external => cases s.irqRequests <;> rfl
  | gameBoy => simp [key _ hp]
  | gameBoyFlat => simp [key _ hp]
  | platform => simp

/-- Selecting a source changes the platform's part of the state alone: the requests held, the byte at IF, or the state
of the platform's bus. -/
theorem State.irqSelect_eq {s s' : State} {w : Word} (h : s.irqSelect = some (w, s')) :
    s' = { s with mem := s'.mem, bus := s'.bus, irqRequests := s'.irqRequests } := by
  unfold irqSelect at h
  cases hi : s.config.irq with
  | noInterrupts => simp [hi] at h
  | external =>
    cases hr : s.irqRequests with
    | nil => simp [hi, hr] at h
    | cons v rest => simp only [hi, hr, Option.some.injEq, Prod.mk.injEq] at h; rw [← h.2]
  | gameBoy =>
    simp only [hi, Option.map_eq_some_iff, Prod.mk.injEq] at h
    obtain ⟨i, -, -, rfl⟩ := h; rfl
  | gameBoyFlat =>
    simp only [hi, Option.map_eq_some_iff, Prod.mk.injEq] at h
    obtain ⟨i, -, -, rfl⟩ := h; rfl
  | platform =>
    simp only [hi, Option.map_eq_some_iff, Prod.mk.injEq] at h
    obtain ⟨i, -, -, rfl⟩ := h; rfl

theorem State.wf_irqSelect {s s' : State} {w : Word} (h : s.irqSelect = some (w, s')) (hm : s.mem.wf = true) :
    s'.mem.wf = true := by
  unfold irqSelect at h
  cases hi : s.config.irq with
  | noInterrupts => simp [hi] at h
  | external =>
    cases hr : s.irqRequests with
    | nil => simp [hi, hr] at h
    | cons v rest => simp only [hi, hr, Option.some.injEq, Prod.mk.injEq] at h; rw [← h.2]; exact hm
  | gameBoy =>
    simp only [hi, Option.map_eq_some_iff, Prod.mk.injEq] at h
    obtain ⟨i, -, -, rfl⟩ := h; exact wf_acknowledge i hm
  | gameBoyFlat =>
    simp only [hi, Option.map_eq_some_iff, Prod.mk.injEq] at h
    obtain ⟨i, -, -, rfl⟩ := h; exact wf_acknowledge i hm
  | platform =>
    simp only [hi, Option.map_eq_some_iff, Prod.mk.injEq] at h
    obtain ⟨i, -, -, rfl⟩ := h; exact hm

/-- The platform's input changes the platform's part of the state alone. -/
theorem State.applyInput_eq (s : State) (i : PlatformInput) :
    s.applyInput i = { s with mem := (s.applyInput i).mem, irqRequests := (s.applyInput i).irqRequests } := by
  unfold applyInput; split <;> rfl

theorem State.wf_applyInput {s : State} (i : PlatformInput) (h : s.mem.wf = true) :
    (s.applyInput i).mem.wf = true := by
  unfold applyInput; split
  · exact h
  · exact h
  · exact h
  · exact Memory.wf_write h ifAddress.isLt
  · exact Memory.wf_write h ifAddress.isLt

/-- Taking the next input changes the inputs and the platform's part of the state alone. -/
theorem State.takeInput_eq (s : State) :
    s.takeInput.2 = { s with
      inputs := s.inputs.tail
      mem := s.takeInput.2.mem
      bus := s.takeInput.2.bus
      irqRequests := s.takeInput.2.irqRequests } := by
  unfold takeInput
  cases h : s.inputs with
  | nil => apply State.ext <;> simp [h]
  | cons i rest =>
    simp only [List.tail_cons]
    rw [applyInput_eq]

theorem State.takeInput_nil {s : State} (h : s.inputs = []) : s.takeInput = (false, s) := by
  simp [takeInput, h]

theorem State.wf_takeInput {s : State} (h : s.mem.wf = true) : s.takeInput.2.mem.wf = true := by
  unfold takeInput
  cases s.inputs with
  | nil => exact h
  | cons i rest => exact wf_applyInput i h

/-! ### Taking an interrupt, and returning from one -/

/-- Trap entry: what the new state is, but for the memory (R511). -/
theorem State.trapEntry_eq (s : State) (w : Word) :
    s.trapEntry w = { s with
      ime := false
      eiPending := false
      mode := .running
      pc := w
      sp := s.sp - 2
      mem := (s.trapEntry w).mem
      bus := (s.trapEntry w).bus
      busLog := s.busLog.map (fun l =>
        l ++ [.write (s.sp - 1) (highByte s.pc), .write (s.sp - 2) (lowByte s.pc)]) } := by
  simp only [trapEntry]
  rw [push16_eq]

/-- Trap entry is two bus writes and the changes of registers (R511). -/
theorem State.trapEntry_writes (s : State) (w : Word) :
    s.trapEntry w = { (s.memWrite (s.sp - 1) (highByte s.pc)).memWrite (s.sp - 2) (lowByte s.pc) with
      ime := false
      eiPending := false
      mode := .running
      pc := w
      sp := s.sp - 2 } := by
  simp only [trapEntry]
  rw [push16_writes]
  rfl

/-- Trap entry away from the platform's own bus: the two locations it writes, and every other location (R511). -/
theorem State.peek_trapEntry {s : State} {b : Word} (h : s.onPlatform b = false) (w : Word) :
    (s.trapEntry w).peek b =
      if b = s.sp - 2 then s.latched b (lowByte s.pc)
      else if b = s.sp - 1 then s.latched b (highByte s.pc) else s.peek b :=
  peek_push16 (s := { s with ime := false, eiPending := false }) h s.pc

theorem State.wf_trapEntry {s : State} (w : Word) (h : s.mem.wf = true) : (s.trapEntry w).mem.wf = true :=
  wf_push16 (s := { s with ime := false, eiPending := false }) s.pc h

/-- Trap return by 0xD9 (R414). -/
theorem State.trapReturn_eq (s : State) : s.trapReturn = { s.pop16.2 with ime := true, pc := s.pop16.1 } := rfl

/-- The delayed enable (R39). -/
theorem State.delayedEnable_eq (s : State) :
    s.delayedEnable = { s with ime := s.ime || s.eiPending, eiPending := false } := by
  unfold delayedEnable
  cases h : s.eiPending <;> apply State.ext <;> simp [h]

end Sys2Proof.Machine
end

