-- ==== Sys2Proof/Laws/Flags.lean ====
section
/-! SUPPORT. The flags and the pairs after each update, and what the arithmetic computes. -/

namespace Sys2Proof.Machine

/-! ### The flag register -/

@[simp] theorem packFlags_low (z n h c : Bool) : packFlags z n h c &&& 15#8 = 0#8 := by
  cases z <;> cases n <;> cases h <;> cases c <;> rfl

theorem packFlags_bit7 (z n h c : Bool) : (packFlags z n h c).getLsbD 7 = z := by
  cases z <;> cases n <;> cases h <;> cases c <;> rfl

theorem packFlags_bit6 (z n h c : Bool) : (packFlags z n h c).getLsbD 6 = n := by
  cases z <;> cases n <;> cases h <;> cases c <;> rfl

theorem packFlags_bit5 (z n h c : Bool) : (packFlags z n h c).getLsbD 5 = h := by
  cases z <;> cases n <;> cases h <;> cases c <;> rfl

theorem packFlags_bit4 (z n h c : Bool) : (packFlags z n h c).getLsbD 4 = c := by
  cases z <;> cases n <;> cases h <;> cases c <;> rfl

/-- A masked byte has a zero low nibble. -/
theorem mask_low (v : Byte) : v &&& 0xF0 &&& 0x0F = 0 := by
  rw [BitVec.and_assoc]; exact BitVec.and_zero

/-- F is made of its four flags once its low nibble is 0 (R36). -/
theorem packFlags_flags {s : State} (h : s.f &&& 0x0F = 0) : packFlags s.flagZ s.flagN s.flagH s.flagC = s.f := by
  have key : ∀ f : Byte, f &&& 0x0F = 0 →
      packFlags (f.getLsbD 7) (f.getLsbD 6) (f.getLsbD 5) (f.getLsbD 4) = f := by decide +kernel
  exact key s.f h

@[simp] theorem State.flagZ_setFlags (s : State) (z n h c : Bool) : (s.setFlags z n h c).flagZ = z := by
  simp only [State.flagZ, State.f_setFlags, packFlags_bit7]

@[simp] theorem State.flagN_setFlags (s : State) (z n h c : Bool) : (s.setFlags z n h c).flagN = n := by
  simp only [State.flagN, State.f_setFlags, packFlags_bit6]

@[simp] theorem State.flagH_setFlags (s : State) (z n h c : Bool) : (s.setFlags z n h c).flagH = h := by
  simp only [State.flagH, State.f_setFlags, packFlags_bit5]

@[simp] theorem State.flagC_setFlags (s : State) (z n h c : Bool) : (s.setFlags z n h c).flagC = c := by
  simp only [State.flagC, State.f_setFlags, packFlags_bit4]

@[simp] theorem State.flagZ_setReg (s : State) (r : Reg8) (v : Byte) : (s.setReg r v).flagZ = s.flagZ := by
  simp only [State.flagZ, State.f_setReg]
@[simp] theorem State.flagZ_setSp (s : State) (v : Word) : (s.setSp v).flagZ = s.flagZ := rfl
@[simp] theorem State.flagZ_advance (s : State) (n : Word) : (s.advance n).flagZ = s.flagZ := rfl
@[simp] theorem State.flagZ_jump (s : State) (w : Word) : (s.jump w).flagZ = s.flagZ := rfl
@[simp] theorem State.flagZ_memWrite (s : State) (x : Word) (v : Byte) : (s.memWrite x v).flagZ = s.flagZ := rfl
@[simp] theorem State.flagZ_memRead (s : State) (x : Word) : ((s.memRead x).2).flagZ = s.flagZ := rfl
@[simp] theorem State.flagZ_push16 (s : State) (v : Word) : (s.push16 v).flagZ = s.flagZ := by
  simp only [State.flagZ, State.f_push16]
@[simp] theorem State.flagZ_setBc (s : State) (v : Word) : (s.setBc v).flagZ = s.flagZ := rfl
@[simp] theorem State.flagZ_setDe (s : State) (v : Word) : (s.setDe v).flagZ = s.flagZ := rfl
@[simp] theorem State.flagZ_setHl (s : State) (v : Word) : (s.setHl v).flagZ = s.flagZ := rfl
@[simp] theorem State.flagN_setReg (s : State) (r : Reg8) (v : Byte) : (s.setReg r v).flagN = s.flagN := by
  simp only [State.flagN, State.f_setReg]
@[simp] theorem State.flagN_setSp (s : State) (v : Word) : (s.setSp v).flagN = s.flagN := rfl
@[simp] theorem State.flagN_advance (s : State) (n : Word) : (s.advance n).flagN = s.flagN := rfl
@[simp] theorem State.flagN_jump (s : State) (w : Word) : (s.jump w).flagN = s.flagN := rfl
@[simp] theorem State.flagN_memWrite (s : State) (x : Word) (v : Byte) : (s.memWrite x v).flagN = s.flagN := rfl
@[simp] theorem State.flagN_memRead (s : State) (x : Word) : ((s.memRead x).2).flagN = s.flagN := rfl
@[simp] theorem State.flagN_push16 (s : State) (v : Word) : (s.push16 v).flagN = s.flagN := by
  simp only [State.flagN, State.f_push16]
@[simp] theorem State.flagN_setBc (s : State) (v : Word) : (s.setBc v).flagN = s.flagN := rfl
@[simp] theorem State.flagN_setDe (s : State) (v : Word) : (s.setDe v).flagN = s.flagN := rfl
@[simp] theorem State.flagN_setHl (s : State) (v : Word) : (s.setHl v).flagN = s.flagN := rfl
@[simp] theorem State.flagH_setReg (s : State) (r : Reg8) (v : Byte) : (s.setReg r v).flagH = s.flagH := by
  simp only [State.flagH, State.f_setReg]
@[simp] theorem State.flagH_setSp (s : State) (v : Word) : (s.setSp v).flagH = s.flagH := rfl
@[simp] theorem State.flagH_advance (s : State) (n : Word) : (s.advance n).flagH = s.flagH := rfl
@[simp] theorem State.flagH_jump (s : State) (w : Word) : (s.jump w).flagH = s.flagH := rfl
@[simp] theorem State.flagH_memWrite (s : State) (x : Word) (v : Byte) : (s.memWrite x v).flagH = s.flagH := rfl
@[simp] theorem State.flagH_memRead (s : State) (x : Word) : ((s.memRead x).2).flagH = s.flagH := rfl
@[simp] theorem State.flagH_push16 (s : State) (v : Word) : (s.push16 v).flagH = s.flagH := by
  simp only [State.flagH, State.f_push16]
@[simp] theorem State.flagH_setBc (s : State) (v : Word) : (s.setBc v).flagH = s.flagH := rfl
@[simp] theorem State.flagH_setDe (s : State) (v : Word) : (s.setDe v).flagH = s.flagH := rfl
@[simp] theorem State.flagH_setHl (s : State) (v : Word) : (s.setHl v).flagH = s.flagH := rfl
@[simp] theorem State.flagC_setReg (s : State) (r : Reg8) (v : Byte) : (s.setReg r v).flagC = s.flagC := by
  simp only [State.flagC, State.f_setReg]
@[simp] theorem State.flagC_setSp (s : State) (v : Word) : (s.setSp v).flagC = s.flagC := rfl
@[simp] theorem State.flagC_advance (s : State) (n : Word) : (s.advance n).flagC = s.flagC := rfl
@[simp] theorem State.flagC_jump (s : State) (w : Word) : (s.jump w).flagC = s.flagC := rfl
@[simp] theorem State.flagC_memWrite (s : State) (x : Word) (v : Byte) : (s.memWrite x v).flagC = s.flagC := rfl
@[simp] theorem State.flagC_memRead (s : State) (x : Word) : ((s.memRead x).2).flagC = s.flagC := rfl
@[simp] theorem State.flagC_push16 (s : State) (v : Word) : (s.push16 v).flagC = s.flagC := by
  simp only [State.flagC, State.f_push16]
@[simp] theorem State.flagC_setBc (s : State) (v : Word) : (s.setBc v).flagC = s.flagC := rfl
@[simp] theorem State.flagC_setDe (s : State) (v : Word) : (s.setDe v).flagC = s.flagC := rfl
@[simp] theorem State.flagC_setHl (s : State) (v : Word) : (s.setHl v).flagC = s.flagC := rfl

@[simp] theorem State.flagZ_setPair (s : State) (r : Reg16) (v : Word) : (s.setPair r v).flagZ = s.flagZ := by
  cases r <;> rfl
@[simp] theorem State.flagN_setPair (s : State) (r : Reg16) (v : Word) : (s.setPair r v).flagN = s.flagN := by
  cases r <;> rfl
@[simp] theorem State.flagH_setPair (s : State) (r : Reg16) (v : Word) : (s.setPair r v).flagH = s.flagH := by
  cases r <;> rfl
@[simp] theorem State.flagC_setPair (s : State) (r : Reg16) (v : Word) : (s.setPair r v).flagC = s.flagC := by
  cases r <;> rfl
@[simp] theorem State.flagZ_pop16 (s : State) : s.pop16.2.flagZ = s.flagZ := by
  simp only [State.flagZ, State.f_pop16]
@[simp] theorem State.flagN_pop16 (s : State) : s.pop16.2.flagN = s.flagN := by
  simp only [State.flagN, State.f_pop16]
@[simp] theorem State.flagH_pop16 (s : State) : s.pop16.2.flagH = s.flagH := by
  simp only [State.flagH, State.f_pop16]
@[simp] theorem State.flagC_pop16 (s : State) : s.pop16.2.flagC = s.flagC := by
  simp only [State.flagC, State.f_pop16]

/-! ### Pairs -/

@[simp] theorem State.bc_setBc (s : State) (v : Word) : (s.setBc v).bc = v := joinBytes_high_low v
@[simp] theorem State.bc_setSp (s : State) (v : Word) : (s.setSp v).bc = s.bc := rfl
@[simp] theorem State.bc_setFlags (s : State) (z n h c : Bool) : (s.setFlags z n h c).bc = s.bc := rfl
@[simp] theorem State.bc_advance (s : State) (n : Word) : (s.advance n).bc = s.bc := rfl
@[simp] theorem State.bc_jump (s : State) (w : Word) : (s.jump w).bc = s.bc := rfl
@[simp] theorem State.bc_memWrite (s : State) (x : Word) (v : Byte) : (s.memWrite x v).bc = s.bc := rfl
@[simp] theorem State.bc_memRead (s : State) (x : Word) : ((s.memRead x).2).bc = s.bc := rfl
@[simp] theorem State.de_setDe (s : State) (v : Word) : (s.setDe v).de = v := joinBytes_high_low v
@[simp] theorem State.de_setSp (s : State) (v : Word) : (s.setSp v).de = s.de := rfl
@[simp] theorem State.de_setFlags (s : State) (z n h c : Bool) : (s.setFlags z n h c).de = s.de := rfl
@[simp] theorem State.de_advance (s : State) (n : Word) : (s.advance n).de = s.de := rfl
@[simp] theorem State.de_jump (s : State) (w : Word) : (s.jump w).de = s.de := rfl
@[simp] theorem State.de_memWrite (s : State) (x : Word) (v : Byte) : (s.memWrite x v).de = s.de := rfl
@[simp] theorem State.de_memRead (s : State) (x : Word) : ((s.memRead x).2).de = s.de := rfl
@[simp] theorem State.hl_setHl (s : State) (v : Word) : (s.setHl v).hl = v := joinBytes_high_low v
@[simp] theorem State.hl_setSp (s : State) (v : Word) : (s.setSp v).hl = s.hl := rfl
@[simp] theorem State.hl_setFlags (s : State) (z n h c : Bool) : (s.setFlags z n h c).hl = s.hl := rfl
@[simp] theorem State.hl_advance (s : State) (n : Word) : (s.advance n).hl = s.hl := rfl
@[simp] theorem State.hl_jump (s : State) (w : Word) : (s.jump w).hl = s.hl := rfl
@[simp] theorem State.hl_memWrite (s : State) (x : Word) (v : Byte) : (s.memWrite x v).hl = s.hl := rfl
@[simp] theorem State.hl_memRead (s : State) (x : Word) : ((s.memRead x).2).hl = s.hl := rfl

/-- A pair read after a pair write (R32, R106). -/
@[simp] theorem State.pair_setPair (s : State) (r q : Reg16) (v : Word) :
    (s.setPair r v).pair q = if q = r then v else s.pair q := by
  cases r <;> cases q <;> simp [State.setPair, State.pair] <;> rfl

/-- AF after a write of AF: the low nibble is dropped (R36, R233). -/
theorem State.af_setAf (s : State) (v : Word) : (s.setAf v).af = v &&& 0xFFF0 := by
  show joinBytes (highByte v) (lowByte v &&& 0xF0) = _
  rw [← joinBytes_high_low (v &&& 0xFFF0)]
  congr 1 <;> apply BitVec.eq_of_getLsbD_eq <;> intro i hi
  · have hi' : i < 8 := by omega
    have : (0xFFF0#16 : Word).getLsbD (8 + i) = true := by
      have : ∀ j : Fin 8, (0xFFF0#16 : Word).getLsbD (8 + j.val) = true := by decide
      exact this ⟨i, hi'⟩
    simp [highByte, hi', this]
  · have hi' : i < 8 := by omega
    have : (0xFFF0#16 : Word).getLsbD i = (0xF0#8 : Byte).getLsbD i := by
      have : ∀ j : Fin 8, (0xFFF0#16 : Word).getLsbD j.val = (0xF0#8 : Byte).getLsbD j.val := by decide
      exact this ⟨i, hi'⟩
    simp [lowByte, hi', this]

/-! ### The arithmetic -/

/-- ADD8's result as a number (R240). -/
theorem add8_toNat (a b : Byte) (cin : Bool) : (add8 a b cin).res.toNat = (a.toNat + b.toNat + cin.toNat) % 256 := by
  simp [add8]

/-- SUB8's result as a number (R241). -/
theorem sub8_toNat (a b : Byte) (cin : Bool) :
    ((sub8 a b cin).res.toNat : Int) = ((a.toNat : Int) - b.toNat - cin.toNat) % 256 := by
  simp [sub8, BitVec.toNat_ofInt]
  omega

/-- The address in the I/O page as a number (R74). -/
theorem ioAddress_toNat (o : Byte) : (ioAddress o).toNat = 0xFF00 + o.toNat := by
  simp [ioAddress]
  omega

/-- The target of a relative jump as a number (R371). -/
theorem relativeTarget_eq (pc : Word) (e : Byte) :
    relativeTarget pc e = BitVec.ofInt 16 ((pc.toNat : Int) + 2 + e.toInt) := by
  have h : sext16 e = BitVec.ofInt 16 e.toInt := rfl
  rw [relativeTarget, h, BitVec.ofInt_add, BitVec.ofInt_add, BitVec.ofInt_natCast, BitVec.ofNat_toNat,
    BitVec.setWidth_eq]
  rfl

/-- The result of ADDSP as a number (R345). -/
theorem addSp_eq (sp : Word) (e : Byte) : addSp sp e = BitVec.ofInt 16 ((sp.toNat : Int) + e.toInt) := by
  have h : sext16 e = BitVec.ofInt 16 e.toInt := rfl
  rw [addSp, h, BitVec.ofInt_add, BitVec.ofInt_natCast, BitVec.ofNat_toNat, BitVec.setWidth_eq]

end Sys2Proof.Machine
end

