-- ==== Sys2Proof/Laws/Decode.lean ====
section
/-! SUPPORT. What the decoder does with each form of row. -/

namespace Sys2Proof

/-- A row without an operand takes the opcode byte alone. -/
theorem decode_op {op : Byte} {i : Instr} (h : opcodeRow op = .op i) (t : List Byte) :
    decode (op :: t) = .ok (i, t) := by
  simp only [decode, h]

/-- A row with an operand of one byte takes the next byte as it is (R102, R110). -/
theorem decode_operand8 {op : Byte} {form : Byte → Instr} (h : opcodeRow op = .operand8 form) (v : Byte)
    (t : List Byte) : decode (op :: v :: t) = .ok (form v, t) := by
  simp only [decode, h]

/-- A row with an operand of two bytes takes the next byte as the low half and the one after as the high half
(R113). -/
theorem decode_operand16 {op : Byte} {form : Word → Instr} (h : opcodeRow op = .operand16 form) (v : Word)
    (t : List Byte) : decode (op :: lowByte v :: highByte v :: t) = .ok (form v, t) := by
  simp only [decode, h, Machine.joinBytes_high_low]

/-- What a successful decoding says of the bytes: the row of the first byte, and the operand bytes. -/
theorem decode_ok {bs : List Byte} {i : Instr} {t : List Byte} (h : decode bs = .ok (i, t)) :
    ∃ op rest, bs = op :: rest ∧
      ((opcodeRow op = .op i ∧ rest = t) ∨
        (∃ form v, opcodeRow op = .operand8 form ∧ rest = v :: t ∧ i = form v) ∨
        (∃ form v, opcodeRow op = .operand16 form ∧ rest = lowByte v :: highByte v :: t ∧ i = form v)) := by
  cases bs with
  | nil => simp [decode] at h
  | cons op rest =>
    refine ⟨op, rest, rfl, ?_⟩
    unfold decode at h
    cases hr : opcodeRow op with
    | op j => simp only [hr, Except.ok.injEq, Prod.mk.injEq] at h; exact .inl ⟨by rw [h.1], h.2⟩
    | operand8 form =>
      rcases rest with _ | ⟨v, rest⟩
      · simp [hr] at h
      · simp only [hr, Except.ok.injEq, Prod.mk.injEq] at h
        exact .inr (.inl ⟨form, v, rfl, by rw [h.2], h.1.symm⟩)
    | operand16 form =>
      rcases rest with _ | ⟨v, _ | ⟨w, rest⟩⟩
      · simp [hr] at h
      · simp [hr] at h
      · simp only [hr, Except.ok.injEq, Prod.mk.injEq] at h
        refine .inr (.inr ⟨form, joinBytes w v, rfl, ?_, h.1.symm⟩)
        rw [Machine.lowByte_joinBytes, Machine.highByte_joinBytes, h.2]

/-- What the encoder gives for the instructions of a row. -/
def Row.encodesAs (op : Byte) : Row → Prop
  | .op i => encode i = [op]
  | .operand8 form => ∀ v, encode (form v) = [op, v]
  | .operand16 form => ∀ v, encode (form v) = [op, lowByte v, highByte v]

/-- The row of an opcode byte holds the instructions that the encoder gives that byte. -/
theorem opcodeRow_encodesAs (op : Byte) : (opcodeRow op).encodesAs op := by
  obtain ⟨n⟩ := op
  fin_cases n
  all_goals first | exact rfl | exact fun _ => rfl

end Sys2Proof
end

