-- ==== Sys2Proof/Laws/Groups.lean ====
section
/-! SUPPORT. The instructions by the groups of OpcodeMap.lean: the meaning of each group over its shared operation, and
the case split into groups, so that a proof over all instructions has one case for each group. -/

namespace Sys2Proof.Machine

/-- The result and flags of an accumulator operation on A and an operand value (R240 to R242). -/
def aluResult (s : State) (op : AluOp) (v : Byte) : AluResult :=
  match op with
  | .add => add8 s.a v false
  | .adc => add8 s.a v s.flagC
  | .sub => sub8 s.a v false
  | .sbc => sub8 s.a v s.flagC
  | .and => and8 s.a v
  | .xor => xor8 s.a v
  | .or => or8 s.a v
  | .cp => sub8 s.a v false

/-- The accumulator operations: one operation for all (R244). -/
theorem exec_alu (op : AluOp) (x : Operand8) (s : State) :
    exec (Instr.alu op x) s =
      if op = .cp then setFlagsOnly (s.afterOperand x) (aluResult s op (s.operand x)) (operandLength x)
      else setAcc (s.afterOperand x) (aluResult s op (s.operand x)) (operandLength x) := by
  cases x with
  | reg r => cases op <;> cases r <;> rfl
  | atHl => cases op <;> rfl
  | d8 v => cases op <;> rfl

theorem exec_ldRegReg (dst src : Reg8) (s : State) :
    exec (Instr.ldRegReg dst src) s = loadReg s dst (s.reg src) 1 := by
  cases dst <;> cases src <;> rfl

theorem exec_ldRegAtHl (dst : Reg8) (s : State) :
    exec (Instr.ldRegAtHl dst) s = loadByte s dst s.hl 1 := by
  cases dst <;> rfl

theorem exec_ldAtHlReg (src : Reg8) (s : State) :
    exec (Instr.ldAtHlReg src) s = storeByte s s.hl (s.reg src) 1 := by
  cases src <;> rfl

theorem exec_ldRegD8 (dst : Reg8) (d8 : Byte) (s : State) :
    exec (Instr.ldRegD8 dst d8) s = loadReg s dst d8 2 := by
  cases dst <;> rfl

theorem exec_incReg8 (r : Reg8) (s : State) :
    exec (Instr.incReg8 r) s = incReg s r := by
  cases r <;> rfl

theorem exec_decReg8 (r : Reg8) (s : State) :
    exec (Instr.decReg8 r) s = decReg s r := by
  cases r <;> rfl

theorem exec_ldPairD16 (r : Reg16) (d16 : Word) (s : State) :
    exec (Instr.ldPairD16 r d16) s = .next ((s.setPair r d16).advance 3) := by
  cases r <;> rfl

theorem exec_incPair (r : Reg16) (s : State) :
    exec (Instr.incPair r) s = .next ((s.setPair r (inc16 (s.pair r))).advance 1) := by
  cases r <;> rfl

theorem exec_decPair (r : Reg16) (s : State) :
    exec (Instr.decPair r) s = .next ((s.setPair r (dec16 (s.pair r))).advance 1) := by
  cases r <;> rfl

theorem exec_addHlPair (r : Reg16) (s : State) :
    exec (Instr.addHlPair r) s = addHl s (s.pair r) := by
  cases r <;> rfl

theorem exec_pushStack (r : StackReg) (s : State) :
    exec (Instr.pushStack r) s = pushPair s r := by
  cases r <;> rfl

theorem exec_popStack (r : StackReg) (s : State) :
    exec (Instr.popStack r) s = popPair s r := by
  cases r <;> rfl

theorem exec_jrCond (cc : Cond) (r8 : Byte) (s : State) :
    exec (Instr.jrCond cc r8) s = branch s cc (relativeTarget s.pc r8) 2 := by
  cases cc <;> rfl

theorem exec_jpCond (cc : Cond) (a16 : Word) (s : State) :
    exec (Instr.jpCond cc a16) s = branch s cc a16 3 := by
  cases cc <;> rfl

theorem exec_callCond (cc : Cond) (a16 : Word) (s : State) :
    exec (Instr.callCond cc a16) s = callIf s cc a16 := by
  cases cc <;> rfl

theorem exec_retCond (cc : Cond) (s : State) :
    exec (Instr.retCond cc) s = retIf s cc := by
  cases cc <;> rfl

theorem exec_rst (y : Fin 8) (s : State) :
    exec (Instr.rst y) s = call s (BitVec.ofNat 16 (8 * y)) 1 := by
  fin_cases y <;> rfl

/-- The case split of the instructions into groups. -/
theorem Instr.byGroup {P : Instr → Prop}
    (ldRegReg : ∀ (dst src : Reg8), P (Instr.ldRegReg dst src))
    (ldRegAtHl : ∀ (dst : Reg8), P (Instr.ldRegAtHl dst))
    (ldAtHlReg : ∀ (src : Reg8), P (Instr.ldAtHlReg src))
    (ldRegD8 : ∀ (dst : Reg8) (d8 : Byte), P (Instr.ldRegD8 dst d8))
    (incReg8 : ∀ (r : Reg8), P (Instr.incReg8 r))
    (decReg8 : ∀ (r : Reg8), P (Instr.decReg8 r))
    (alu : ∀ (op : AluOp) (x : Operand8), P (Instr.alu op x))
    (ldPairD16 : ∀ (r : Reg16) (d16 : Word), P (Instr.ldPairD16 r d16))
    (incPair : ∀ (r : Reg16), P (Instr.incPair r))
    (decPair : ∀ (r : Reg16), P (Instr.decPair r))
    (addHlPair : ∀ (r : Reg16), P (Instr.addHlPair r))
    (pushStack : ∀ (r : StackReg), P (Instr.pushStack r))
    (popStack : ∀ (r : StackReg), P (Instr.popStack r))
    (jrCond : ∀ (cc : Cond) (r8 : Byte), P (Instr.jrCond cc r8))
    (jpCond : ∀ (cc : Cond) (a16 : Word), P (Instr.jpCond cc a16))
    (callCond : ∀ (cc : Cond) (a16 : Word), P (Instr.callCond cc a16))
    (retCond : ∀ (cc : Cond), P (Instr.retCond cc))
    (rst : ∀ (y : Fin 8), P (Instr.rst y))
    (nop : P .nop)
    (ldAtBcA : P .ldAtBcA)
    (rlca : P .rlca)
    (ldAtA16Sp : ∀ a16, P (.ldAtA16Sp a16))
    (ldAAtBc : P .ldAAtBc)
    (rrca : P .rrca)
    (stop : P .stop)
    (ldAtDeA : P .ldAtDeA)
    (rla : P .rla)
    (jrR8 : ∀ r8, P (.jrR8 r8))
    (ldAAtDe : P .ldAAtDe)
    (rra : P .rra)
    (ldAtHlIncA : P .ldAtHlIncA)
    (daa : P .daa)
    (ldAAtHlInc : P .ldAAtHlInc)
    (cpl : P .cpl)
    (ldAtHlDecA : P .ldAtHlDecA)
    (incAtHl : P .incAtHl)
    (decAtHl : P .decAtHl)
    (ldAtHlD8 : ∀ d8, P (.ldAtHlD8 d8))
    (scf : P .scf)
    (ldAAtHlDec : P .ldAAtHlDec)
    (ccf : P .ccf)
    (halt : P .halt)
    (jpA16 : ∀ a16, P (.jpA16 a16))
    (ret : P .ret)
    (cbPrefix : P .cbPrefix)
    (callA16 : ∀ a16, P (.callA16 a16))
    (diD9 : P .diD9)
    (ldAtIoA8A : ∀ a8, P (.ldAtIoA8A a8))
    (ldAtIoCA : P .ldAtIoCA)
    (addSpR8 : ∀ r8, P (.addSpR8 r8))
    (jpHl : P .jpHl)
    (ldAtA16A : ∀ a16, P (.ldAtA16A a16))
    (ldAAtIoA8 : ∀ a8, P (.ldAAtIoA8 a8))
    (ldAAtIoC : P .ldAAtIoC)
    (diF3 : P .diF3)
    (ldHlSpR8 : ∀ r8, P (.ldHlSpR8 r8))
    (ldSpHl : P .ldSpHl)
    (ldAAtA16 : ∀ a16, P (.ldAAtA16 a16))
    (ei : P .ei)
    (unlisted : ∀ op i, (op, i) ∈ unlistedRows → P i) : ∀ i, P i
  | .nop => nop
  | .ldBcD16 d16 => ldPairD16 .bc d16
  | .ldAtBcA => ldAtBcA
  | .incBc => incPair .bc
  | .incB => incReg8 .b
  | .decB => decReg8 .b
  | .ldBD8 d8 => ldRegD8 .b d8
  | .rlca => rlca
  | .ldAtA16Sp a16 => ldAtA16Sp a16
  | .addHlBc => addHlPair .bc
  | .ldAAtBc => ldAAtBc
  | .decBc => decPair .bc
  | .incC => incReg8 .c
  | .decC => decReg8 .c
  | .ldCD8 d8 => ldRegD8 .c d8
  | .rrca => rrca
  | .stop => stop
  | .ldDeD16 d16 => ldPairD16 .de d16
  | .ldAtDeA => ldAtDeA
  | .incDe => incPair .de
  | .incD => incReg8 .d
  | .decD => decReg8 .d
  | .ldDD8 d8 => ldRegD8 .d d8
  | .rla => rla
  | .jrR8 r8 => jrR8 r8
  | .addHlDe => addHlPair .de
  | .ldAAtDe => ldAAtDe
  | .decDe => decPair .de
  | .incE => incReg8 .e
  | .decE => decReg8 .e
  | .ldED8 d8 => ldRegD8 .e d8
  | .rra => rra
  | .jrNzR8 r8 => jrCond .nz r8
  | .ldHlD16 d16 => ldPairD16 .hl d16
  | .ldAtHlIncA => ldAtHlIncA
  | .incHl => incPair .hl
  | .incH => incReg8 .h
  | .decH => decReg8 .h
  | .ldHD8 d8 => ldRegD8 .h d8
  | .daa => daa
  | .jrZR8 r8 => jrCond .z r8
  | .addHlHl => addHlPair .hl
  | .ldAAtHlInc => ldAAtHlInc
  | .decHl => decPair .hl
  | .incL => incReg8 .l
  | .decL => decReg8 .l
  | .ldLD8 d8 => ldRegD8 .l d8
  | .cpl => cpl
  | .jrNcR8 r8 => jrCond .nc r8
  | .ldSpD16 d16 => ldPairD16 .sp d16
  | .ldAtHlDecA => ldAtHlDecA
  | .incSp => incPair .sp
  | .incAtHl => incAtHl
  | .decAtHl => decAtHl
  | .ldAtHlD8 d8 => ldAtHlD8 d8
  | .scf => scf
  | .jrCR8 r8 => jrCond .c r8
  | .addHlSp => addHlPair .sp
  | .ldAAtHlDec => ldAAtHlDec
  | .decSp => decPair .sp
  | .incA => incReg8 .a
  | .decA => decReg8 .a
  | .ldAD8 d8 => ldRegD8 .a d8
  | .ccf => ccf
  | .ldBB => ldRegReg .b .b
  | .ldBC => ldRegReg .b .c
  | .ldBD => ldRegReg .b .d
  | .ldBE => ldRegReg .b .e
  | .ldBH => ldRegReg .b .h
  | .ldBL => ldRegReg .b .l
  | .ldBAtHl => ldRegAtHl .b
  | .ldBA => ldRegReg .b .a
  | .ldCB => ldRegReg .c .b
  | .ldCC => ldRegReg .c .c
  | .ldCD => ldRegReg .c .d
  | .ldCE => ldRegReg .c .e
  | .ldCH => ldRegReg .c .h
  | .ldCL => ldRegReg .c .l
  | .ldCAtHl => ldRegAtHl .c
  | .ldCA => ldRegReg .c .a
  | .ldDB => ldRegReg .d .b
  | .ldDC => ldRegReg .d .c
  | .ldDD => ldRegReg .d .d
  | .ldDE => ldRegReg .d .e
  | .ldDH => ldRegReg .d .h
  | .ldDL => ldRegReg .d .l
  | .ldDAtHl => ldRegAtHl .d
  | .ldDA => ldRegReg .d .a
  | .ldEB => ldRegReg .e .b
  | .ldEC => ldRegReg .e .c
  | .ldED => ldRegReg .e .d
  | .ldEE => ldRegReg .e .e
  | .ldEH => ldRegReg .e .h
  | .ldEL => ldRegReg .e .l
  | .ldEAtHl => ldRegAtHl .e
  | .ldEA => ldRegReg .e .a
  | .ldHB => ldRegReg .h .b
  | .ldHC => ldRegReg .h .c
  | .ldHD => ldRegReg .h .d
  | .ldHE => ldRegReg .h .e
  | .ldHH => ldRegReg .h .h
  | .ldHL => ldRegReg .h .l
  | .ldHAtHl => ldRegAtHl .h
  | .ldHA => ldRegReg .h .a
  | .ldLB => ldRegReg .l .b
  | .ldLC => ldRegReg .l .c
  | .ldLD => ldRegReg .l .d
  | .ldLE => ldRegReg .l .e
  | .ldLH => ldRegReg .l .h
  | .ldLL => ldRegReg .l .l
  | .ldLAtHl => ldRegAtHl .l
  | .ldLA => ldRegReg .l .a
  | .ldAtHlB => ldAtHlReg .b
  | .ldAtHlC => ldAtHlReg .c
  | .ldAtHlD => ldAtHlReg .d
  | .ldAtHlE => ldAtHlReg .e
  | .ldAtHlH => ldAtHlReg .h
  | .ldAtHlL => ldAtHlReg .l
  | .halt => halt
  | .ldAtHlA => ldAtHlReg .a
  | .ldAB => ldRegReg .a .b
  | .ldAC => ldRegReg .a .c
  | .ldAD => ldRegReg .a .d
  | .ldAE => ldRegReg .a .e
  | .ldAH => ldRegReg .a .h
  | .ldAL => ldRegReg .a .l
  | .ldAAtHl => ldRegAtHl .a
  | .ldAA => ldRegReg .a .a
  | .addAB => alu .add (.reg .b)
  | .addAC => alu .add (.reg .c)
  | .addAD => alu .add (.reg .d)
  | .addAE => alu .add (.reg .e)
  | .addAH => alu .add (.reg .h)
  | .addAL => alu .add (.reg .l)
  | .addAAtHl => alu .add .atHl
  | .addAA => alu .add (.reg .a)
  | .adcAB => alu .adc (.reg .b)
  | .adcAC => alu .adc (.reg .c)
  | .adcAD => alu .adc (.reg .d)
  | .adcAE => alu .adc (.reg .e)
  | .adcAH => alu .adc (.reg .h)
  | .adcAL => alu .adc (.reg .l)
  | .adcAAtHl => alu .adc .atHl
  | .adcAA => alu .adc (.reg .a)
  | .subB => alu .sub (.reg .b)
  | .subC => alu .sub (.reg .c)
  | .subD => alu .sub (.reg .d)
  | .subE => alu .sub (.reg .e)
  | .subH => alu .sub (.reg .h)
  | .subL => alu .sub (.reg .l)
  | .subAtHl => alu .sub .atHl
  | .subA => alu .sub (.reg .a)
  | .sbcAB => alu .sbc (.reg .b)
  | .sbcAC => alu .sbc (.reg .c)
  | .sbcAD => alu .sbc (.reg .d)
  | .sbcAE => alu .sbc (.reg .e)
  | .sbcAH => alu .sbc (.reg .h)
  | .sbcAL => alu .sbc (.reg .l)
  | .sbcAAtHl => alu .sbc .atHl
  | .sbcAA => alu .sbc (.reg .a)
  | .andB => alu .and (.reg .b)
  | .andC => alu .and (.reg .c)
  | .andD => alu .and (.reg .d)
  | .andE => alu .and (.reg .e)
  | .andH => alu .and (.reg .h)
  | .andL => alu .and (.reg .l)
  | .andAtHl => alu .and .atHl
  | .andA => alu .and (.reg .a)
  | .xorB => alu .xor (.reg .b)
  | .xorC => alu .xor (.reg .c)
  | .xorD => alu .xor (.reg .d)
  | .xorE => alu .xor (.reg .e)
  | .xorH => alu .xor (.reg .h)
  | .xorL => alu .xor (.reg .l)
  | .xorAtHl => alu .xor .atHl
  | .xorA => alu .xor (.reg .a)
  | .orB => alu .or (.reg .b)
  | .orC => alu .or (.reg .c)
  | .orD => alu .or (.reg .d)
  | .orE => alu .or (.reg .e)
  | .orH => alu .or (.reg .h)
  | .orL => alu .or (.reg .l)
  | .orAtHl => alu .or .atHl
  | .orA => alu .or (.reg .a)
  | .cpB => alu .cp (.reg .b)
  | .cpC => alu .cp (.reg .c)
  | .cpD => alu .cp (.reg .d)
  | .cpE => alu .cp (.reg .e)
  | .cpH => alu .cp (.reg .h)
  | .cpL => alu .cp (.reg .l)
  | .cpAtHl => alu .cp .atHl
  | .cpA => alu .cp (.reg .a)
  | .retNz => retCond .nz
  | .popBc => popStack .bc
  | .jpNzA16 a16 => jpCond .nz a16
  | .jpA16 a16 => jpA16 a16
  | .callNzA16 a16 => callCond .nz a16
  | .pushBc => pushStack .bc
  | .addAD8 d8 => alu .add (.d8 d8)
  | .rst00 => rst 0
  | .retZ => retCond .z
  | .ret => ret
  | .jpZA16 a16 => jpCond .z a16
  | .callZA16 a16 => callCond .z a16
  | .callA16 a16 => callA16 a16
  | .adcAD8 d8 => alu .adc (.d8 d8)
  | .rst08 => rst 1
  | .retNc => retCond .nc
  | .popDe => popStack .de
  | .jpNcA16 a16 => jpCond .nc a16
  | .callNcA16 a16 => callCond .nc a16
  | .pushDe => pushStack .de
  | .subD8 d8 => alu .sub (.d8 d8)
  | .rst10 => rst 2
  | .retC => retCond .c
  | .diD9 => diD9
  | .jpCA16 a16 => jpCond .c a16
  | .callCA16 a16 => callCond .c a16
  | .sbcAD8 d8 => alu .sbc (.d8 d8)
  | .rst18 => rst 3
  | .ldAtIoA8A a8 => ldAtIoA8A a8
  | .popHl => popStack .hl
  | .ldAtIoCA => ldAtIoCA
  | .pushHl => pushStack .hl
  | .andD8 d8 => alu .and (.d8 d8)
  | .rst20 => rst 4
  | .addSpR8 r8 => addSpR8 r8
  | .jpHl => jpHl
  | .ldAtA16A a16 => ldAtA16A a16
  | .xorD8 d8 => alu .xor (.d8 d8)
  | .rst28 => rst 5
  | .ldAAtIoA8 a8 => ldAAtIoA8 a8
  | .popAf => popStack .af
  | .ldAAtIoC => ldAAtIoC
  | .diF3 => diF3
  | .pushAf => pushStack .af
  | .orD8 d8 => alu .or (.d8 d8)
  | .rst30 => rst 6
  | .ldHlSpR8 r8 => ldHlSpR8 r8
  | .ldSpHl => ldSpHl
  | .ldAAtA16 a16 => ldAAtA16 a16
  | .ei => ei
  | .cpD8 d8 => alu .cp (.d8 d8)
  | .rst38 => rst 7
  | .cbPrefix => cbPrefix
  | .unlistedD3 => unlisted 0xD3 .unlistedD3 (by decide)
  | .unlistedDB => unlisted 0xDB .unlistedDB (by decide)
  | .unlistedDD => unlisted 0xDD .unlistedDD (by decide)
  | .unlistedE3 => unlisted 0xE3 .unlistedE3 (by decide)
  | .unlistedE4 => unlisted 0xE4 .unlistedE4 (by decide)
  | .unlistedEB => unlisted 0xEB .unlistedEB (by decide)
  | .unlistedEC => unlisted 0xEC .unlistedEC (by decide)
  | .unlistedED => unlisted 0xED .unlistedED (by decide)
  | .unlistedF4 => unlisted 0xF4 .unlistedF4 (by decide)
  | .unlistedFC => unlisted 0xFC .unlistedFC (by decide)
  | .unlistedFD => unlisted 0xFD .unlistedFD (by decide)

end Sys2Proof.Machine
end

