-- ==== Sys2Proof/Laws/PerInstr.lean ====
section
/-! SUPPORT. The family RoundTrip: the encoding of an instruction decodes to it, one lemma per constructor. -/

namespace Sys2Proof.Laws

/-- The bytes of the instruction, with anything after them, decode to the instruction and leave the rest. -/
def RoundTrip.Statement (i : Instr) : Prop := ∀ t : List Byte, decode (encode i ++ t) = .ok (i, t)

theorem RoundTrip.nop : Statement .nop :=
  fun t => decode_op (op := 0x00) rfl t
theorem RoundTrip.ldBcD16 (d16 : Word) : Statement (.ldBcD16 d16) :=
  fun t => decode_operand16 (op := 0x01) (form := .ldBcD16) rfl d16 t
theorem RoundTrip.ldAtBcA : Statement .ldAtBcA :=
  fun t => decode_op (op := 0x02) rfl t
theorem RoundTrip.incBc : Statement .incBc :=
  fun t => decode_op (op := 0x03) rfl t
theorem RoundTrip.incB : Statement .incB :=
  fun t => decode_op (op := 0x04) rfl t
theorem RoundTrip.decB : Statement .decB :=
  fun t => decode_op (op := 0x05) rfl t
theorem RoundTrip.ldBD8 (d8 : Byte) : Statement (.ldBD8 d8) :=
  fun t => decode_operand8 (op := 0x06) (form := .ldBD8) rfl d8 t
theorem RoundTrip.rlca : Statement .rlca :=
  fun t => decode_op (op := 0x07) rfl t
theorem RoundTrip.ldAtA16Sp (a16 : Word) : Statement (.ldAtA16Sp a16) :=
  fun t => decode_operand16 (op := 0x08) (form := .ldAtA16Sp) rfl a16 t
theorem RoundTrip.addHlBc : Statement .addHlBc :=
  fun t => decode_op (op := 0x09) rfl t
theorem RoundTrip.ldAAtBc : Statement .ldAAtBc :=
  fun t => decode_op (op := 0x0A) rfl t
theorem RoundTrip.decBc : Statement .decBc :=
  fun t => decode_op (op := 0x0B) rfl t
theorem RoundTrip.incC : Statement .incC :=
  fun t => decode_op (op := 0x0C) rfl t
theorem RoundTrip.decC : Statement .decC :=
  fun t => decode_op (op := 0x0D) rfl t
theorem RoundTrip.ldCD8 (d8 : Byte) : Statement (.ldCD8 d8) :=
  fun t => decode_operand8 (op := 0x0E) (form := .ldCD8) rfl d8 t
theorem RoundTrip.rrca : Statement .rrca :=
  fun t => decode_op (op := 0x0F) rfl t
theorem RoundTrip.stop : Statement .stop :=
  fun t => decode_op (op := 0x10) rfl t
theorem RoundTrip.ldDeD16 (d16 : Word) : Statement (.ldDeD16 d16) :=
  fun t => decode_operand16 (op := 0x11) (form := .ldDeD16) rfl d16 t
theorem RoundTrip.ldAtDeA : Statement .ldAtDeA :=
  fun t => decode_op (op := 0x12) rfl t
theorem RoundTrip.incDe : Statement .incDe :=
  fun t => decode_op (op := 0x13) rfl t
theorem RoundTrip.incD : Statement .incD :=
  fun t => decode_op (op := 0x14) rfl t
theorem RoundTrip.decD : Statement .decD :=
  fun t => decode_op (op := 0x15) rfl t
theorem RoundTrip.ldDD8 (d8 : Byte) : Statement (.ldDD8 d8) :=
  fun t => decode_operand8 (op := 0x16) (form := .ldDD8) rfl d8 t
theorem RoundTrip.rla : Statement .rla :=
  fun t => decode_op (op := 0x17) rfl t
theorem RoundTrip.jrR8 (r8 : Byte) : Statement (.jrR8 r8) :=
  fun t => decode_operand8 (op := 0x18) (form := .jrR8) rfl r8 t
theorem RoundTrip.addHlDe : Statement .addHlDe :=
  fun t => decode_op (op := 0x19) rfl t
theorem RoundTrip.ldAAtDe : Statement .ldAAtDe :=
  fun t => decode_op (op := 0x1A) rfl t
theorem RoundTrip.decDe : Statement .decDe :=
  fun t => decode_op (op := 0x1B) rfl t
theorem RoundTrip.incE : Statement .incE :=
  fun t => decode_op (op := 0x1C) rfl t
theorem RoundTrip.decE : Statement .decE :=
  fun t => decode_op (op := 0x1D) rfl t
theorem RoundTrip.ldED8 (d8 : Byte) : Statement (.ldED8 d8) :=
  fun t => decode_operand8 (op := 0x1E) (form := .ldED8) rfl d8 t
theorem RoundTrip.rra : Statement .rra :=
  fun t => decode_op (op := 0x1F) rfl t
theorem RoundTrip.jrNzR8 (r8 : Byte) : Statement (.jrNzR8 r8) :=
  fun t => decode_operand8 (op := 0x20) (form := .jrNzR8) rfl r8 t
theorem RoundTrip.ldHlD16 (d16 : Word) : Statement (.ldHlD16 d16) :=
  fun t => decode_operand16 (op := 0x21) (form := .ldHlD16) rfl d16 t
theorem RoundTrip.ldAtHlIncA : Statement .ldAtHlIncA :=
  fun t => decode_op (op := 0x22) rfl t
theorem RoundTrip.incHl : Statement .incHl :=
  fun t => decode_op (op := 0x23) rfl t
theorem RoundTrip.incH : Statement .incH :=
  fun t => decode_op (op := 0x24) rfl t
theorem RoundTrip.decH : Statement .decH :=
  fun t => decode_op (op := 0x25) rfl t
theorem RoundTrip.ldHD8 (d8 : Byte) : Statement (.ldHD8 d8) :=
  fun t => decode_operand8 (op := 0x26) (form := .ldHD8) rfl d8 t
theorem RoundTrip.daa : Statement .daa :=
  fun t => decode_op (op := 0x27) rfl t
theorem RoundTrip.jrZR8 (r8 : Byte) : Statement (.jrZR8 r8) :=
  fun t => decode_operand8 (op := 0x28) (form := .jrZR8) rfl r8 t
theorem RoundTrip.addHlHl : Statement .addHlHl :=
  fun t => decode_op (op := 0x29) rfl t
theorem RoundTrip.ldAAtHlInc : Statement .ldAAtHlInc :=
  fun t => decode_op (op := 0x2A) rfl t
theorem RoundTrip.decHl : Statement .decHl :=
  fun t => decode_op (op := 0x2B) rfl t
theorem RoundTrip.incL : Statement .incL :=
  fun t => decode_op (op := 0x2C) rfl t
theorem RoundTrip.decL : Statement .decL :=
  fun t => decode_op (op := 0x2D) rfl t
theorem RoundTrip.ldLD8 (d8 : Byte) : Statement (.ldLD8 d8) :=
  fun t => decode_operand8 (op := 0x2E) (form := .ldLD8) rfl d8 t
theorem RoundTrip.cpl : Statement .cpl :=
  fun t => decode_op (op := 0x2F) rfl t
theorem RoundTrip.jrNcR8 (r8 : Byte) : Statement (.jrNcR8 r8) :=
  fun t => decode_operand8 (op := 0x30) (form := .jrNcR8) rfl r8 t
theorem RoundTrip.ldSpD16 (d16 : Word) : Statement (.ldSpD16 d16) :=
  fun t => decode_operand16 (op := 0x31) (form := .ldSpD16) rfl d16 t
theorem RoundTrip.ldAtHlDecA : Statement .ldAtHlDecA :=
  fun t => decode_op (op := 0x32) rfl t
theorem RoundTrip.incSp : Statement .incSp :=
  fun t => decode_op (op := 0x33) rfl t
theorem RoundTrip.incAtHl : Statement .incAtHl :=
  fun t => decode_op (op := 0x34) rfl t
theorem RoundTrip.decAtHl : Statement .decAtHl :=
  fun t => decode_op (op := 0x35) rfl t
theorem RoundTrip.ldAtHlD8 (d8 : Byte) : Statement (.ldAtHlD8 d8) :=
  fun t => decode_operand8 (op := 0x36) (form := .ldAtHlD8) rfl d8 t
theorem RoundTrip.scf : Statement .scf :=
  fun t => decode_op (op := 0x37) rfl t
theorem RoundTrip.jrCR8 (r8 : Byte) : Statement (.jrCR8 r8) :=
  fun t => decode_operand8 (op := 0x38) (form := .jrCR8) rfl r8 t
theorem RoundTrip.addHlSp : Statement .addHlSp :=
  fun t => decode_op (op := 0x39) rfl t
theorem RoundTrip.ldAAtHlDec : Statement .ldAAtHlDec :=
  fun t => decode_op (op := 0x3A) rfl t
theorem RoundTrip.decSp : Statement .decSp :=
  fun t => decode_op (op := 0x3B) rfl t
theorem RoundTrip.incA : Statement .incA :=
  fun t => decode_op (op := 0x3C) rfl t
theorem RoundTrip.decA : Statement .decA :=
  fun t => decode_op (op := 0x3D) rfl t
theorem RoundTrip.ldAD8 (d8 : Byte) : Statement (.ldAD8 d8) :=
  fun t => decode_operand8 (op := 0x3E) (form := .ldAD8) rfl d8 t
theorem RoundTrip.ccf : Statement .ccf :=
  fun t => decode_op (op := 0x3F) rfl t
theorem RoundTrip.ldBB : Statement .ldBB :=
  fun t => decode_op (op := 0x40) rfl t
theorem RoundTrip.ldBC : Statement .ldBC :=
  fun t => decode_op (op := 0x41) rfl t
theorem RoundTrip.ldBD : Statement .ldBD :=
  fun t => decode_op (op := 0x42) rfl t
theorem RoundTrip.ldBE : Statement .ldBE :=
  fun t => decode_op (op := 0x43) rfl t
theorem RoundTrip.ldBH : Statement .ldBH :=
  fun t => decode_op (op := 0x44) rfl t
theorem RoundTrip.ldBL : Statement .ldBL :=
  fun t => decode_op (op := 0x45) rfl t
theorem RoundTrip.ldBAtHl : Statement .ldBAtHl :=
  fun t => decode_op (op := 0x46) rfl t
theorem RoundTrip.ldBA : Statement .ldBA :=
  fun t => decode_op (op := 0x47) rfl t
theorem RoundTrip.ldCB : Statement .ldCB :=
  fun t => decode_op (op := 0x48) rfl t
theorem RoundTrip.ldCC : Statement .ldCC :=
  fun t => decode_op (op := 0x49) rfl t
theorem RoundTrip.ldCD : Statement .ldCD :=
  fun t => decode_op (op := 0x4A) rfl t
theorem RoundTrip.ldCE : Statement .ldCE :=
  fun t => decode_op (op := 0x4B) rfl t
theorem RoundTrip.ldCH : Statement .ldCH :=
  fun t => decode_op (op := 0x4C) rfl t
theorem RoundTrip.ldCL : Statement .ldCL :=
  fun t => decode_op (op := 0x4D) rfl t
theorem RoundTrip.ldCAtHl : Statement .ldCAtHl :=
  fun t => decode_op (op := 0x4E) rfl t
theorem RoundTrip.ldCA : Statement .ldCA :=
  fun t => decode_op (op := 0x4F) rfl t
theorem RoundTrip.ldDB : Statement .ldDB :=
  fun t => decode_op (op := 0x50) rfl t
theorem RoundTrip.ldDC : Statement .ldDC :=
  fun t => decode_op (op := 0x51) rfl t
theorem RoundTrip.ldDD : Statement .ldDD :=
  fun t => decode_op (op := 0x52) rfl t
theorem RoundTrip.ldDE : Statement .ldDE :=
  fun t => decode_op (op := 0x53) rfl t
theorem RoundTrip.ldDH : Statement .ldDH :=
  fun t => decode_op (op := 0x54) rfl t
theorem RoundTrip.ldDL : Statement .ldDL :=
  fun t => decode_op (op := 0x55) rfl t
theorem RoundTrip.ldDAtHl : Statement .ldDAtHl :=
  fun t => decode_op (op := 0x56) rfl t
theorem RoundTrip.ldDA : Statement .ldDA :=
  fun t => decode_op (op := 0x57) rfl t
theorem RoundTrip.ldEB : Statement .ldEB :=
  fun t => decode_op (op := 0x58) rfl t
theorem RoundTrip.ldEC : Statement .ldEC :=
  fun t => decode_op (op := 0x59) rfl t
theorem RoundTrip.ldED : Statement .ldED :=
  fun t => decode_op (op := 0x5A) rfl t
theorem RoundTrip.ldEE : Statement .ldEE :=
  fun t => decode_op (op := 0x5B) rfl t
theorem RoundTrip.ldEH : Statement .ldEH :=
  fun t => decode_op (op := 0x5C) rfl t
theorem RoundTrip.ldEL : Statement .ldEL :=
  fun t => decode_op (op := 0x5D) rfl t
theorem RoundTrip.ldEAtHl : Statement .ldEAtHl :=
  fun t => decode_op (op := 0x5E) rfl t
theorem RoundTrip.ldEA : Statement .ldEA :=
  fun t => decode_op (op := 0x5F) rfl t
theorem RoundTrip.ldHB : Statement .ldHB :=
  fun t => decode_op (op := 0x60) rfl t
theorem RoundTrip.ldHC : Statement .ldHC :=
  fun t => decode_op (op := 0x61) rfl t
theorem RoundTrip.ldHD : Statement .ldHD :=
  fun t => decode_op (op := 0x62) rfl t
theorem RoundTrip.ldHE : Statement .ldHE :=
  fun t => decode_op (op := 0x63) rfl t
theorem RoundTrip.ldHH : Statement .ldHH :=
  fun t => decode_op (op := 0x64) rfl t
theorem RoundTrip.ldHL : Statement .ldHL :=
  fun t => decode_op (op := 0x65) rfl t
theorem RoundTrip.ldHAtHl : Statement .ldHAtHl :=
  fun t => decode_op (op := 0x66) rfl t
theorem RoundTrip.ldHA : Statement .ldHA :=
  fun t => decode_op (op := 0x67) rfl t
theorem RoundTrip.ldLB : Statement .ldLB :=
  fun t => decode_op (op := 0x68) rfl t
theorem RoundTrip.ldLC : Statement .ldLC :=
  fun t => decode_op (op := 0x69) rfl t
theorem RoundTrip.ldLD : Statement .ldLD :=
  fun t => decode_op (op := 0x6A) rfl t
theorem RoundTrip.ldLE : Statement .ldLE :=
  fun t => decode_op (op := 0x6B) rfl t
theorem RoundTrip.ldLH : Statement .ldLH :=
  fun t => decode_op (op := 0x6C) rfl t
theorem RoundTrip.ldLL : Statement .ldLL :=
  fun t => decode_op (op := 0x6D) rfl t
theorem RoundTrip.ldLAtHl : Statement .ldLAtHl :=
  fun t => decode_op (op := 0x6E) rfl t
theorem RoundTrip.ldLA : Statement .ldLA :=
  fun t => decode_op (op := 0x6F) rfl t
theorem RoundTrip.ldAtHlB : Statement .ldAtHlB :=
  fun t => decode_op (op := 0x70) rfl t
theorem RoundTrip.ldAtHlC : Statement .ldAtHlC :=
  fun t => decode_op (op := 0x71) rfl t
theorem RoundTrip.ldAtHlD : Statement .ldAtHlD :=
  fun t => decode_op (op := 0x72) rfl t
theorem RoundTrip.ldAtHlE : Statement .ldAtHlE :=
  fun t => decode_op (op := 0x73) rfl t
theorem RoundTrip.ldAtHlH : Statement .ldAtHlH :=
  fun t => decode_op (op := 0x74) rfl t
theorem RoundTrip.ldAtHlL : Statement .ldAtHlL :=
  fun t => decode_op (op := 0x75) rfl t
theorem RoundTrip.halt : Statement .halt :=
  fun t => decode_op (op := 0x76) rfl t
theorem RoundTrip.ldAtHlA : Statement .ldAtHlA :=
  fun t => decode_op (op := 0x77) rfl t
theorem RoundTrip.ldAB : Statement .ldAB :=
  fun t => decode_op (op := 0x78) rfl t
theorem RoundTrip.ldAC : Statement .ldAC :=
  fun t => decode_op (op := 0x79) rfl t
theorem RoundTrip.ldAD : Statement .ldAD :=
  fun t => decode_op (op := 0x7A) rfl t
theorem RoundTrip.ldAE : Statement .ldAE :=
  fun t => decode_op (op := 0x7B) rfl t
theorem RoundTrip.ldAH : Statement .ldAH :=
  fun t => decode_op (op := 0x7C) rfl t
theorem RoundTrip.ldAL : Statement .ldAL :=
  fun t => decode_op (op := 0x7D) rfl t
theorem RoundTrip.ldAAtHl : Statement .ldAAtHl :=
  fun t => decode_op (op := 0x7E) rfl t
theorem RoundTrip.ldAA : Statement .ldAA :=
  fun t => decode_op (op := 0x7F) rfl t
theorem RoundTrip.addAB : Statement .addAB :=
  fun t => decode_op (op := 0x80) rfl t
theorem RoundTrip.addAC : Statement .addAC :=
  fun t => decode_op (op := 0x81) rfl t
theorem RoundTrip.addAD : Statement .addAD :=
  fun t => decode_op (op := 0x82) rfl t
theorem RoundTrip.addAE : Statement .addAE :=
  fun t => decode_op (op := 0x83) rfl t
theorem RoundTrip.addAH : Statement .addAH :=
  fun t => decode_op (op := 0x84) rfl t
theorem RoundTrip.addAL : Statement .addAL :=
  fun t => decode_op (op := 0x85) rfl t
theorem RoundTrip.addAAtHl : Statement .addAAtHl :=
  fun t => decode_op (op := 0x86) rfl t
theorem RoundTrip.addAA : Statement .addAA :=
  fun t => decode_op (op := 0x87) rfl t
theorem RoundTrip.adcAB : Statement .adcAB :=
  fun t => decode_op (op := 0x88) rfl t
theorem RoundTrip.adcAC : Statement .adcAC :=
  fun t => decode_op (op := 0x89) rfl t
theorem RoundTrip.adcAD : Statement .adcAD :=
  fun t => decode_op (op := 0x8A) rfl t
theorem RoundTrip.adcAE : Statement .adcAE :=
  fun t => decode_op (op := 0x8B) rfl t
theorem RoundTrip.adcAH : Statement .adcAH :=
  fun t => decode_op (op := 0x8C) rfl t
theorem RoundTrip.adcAL : Statement .adcAL :=
  fun t => decode_op (op := 0x8D) rfl t
theorem RoundTrip.adcAAtHl : Statement .adcAAtHl :=
  fun t => decode_op (op := 0x8E) rfl t
theorem RoundTrip.adcAA : Statement .adcAA :=
  fun t => decode_op (op := 0x8F) rfl t
theorem RoundTrip.subB : Statement .subB :=
  fun t => decode_op (op := 0x90) rfl t
theorem RoundTrip.subC : Statement .subC :=
  fun t => decode_op (op := 0x91) rfl t
theorem RoundTrip.subD : Statement .subD :=
  fun t => decode_op (op := 0x92) rfl t
theorem RoundTrip.subE : Statement .subE :=
  fun t => decode_op (op := 0x93) rfl t
theorem RoundTrip.subH : Statement .subH :=
  fun t => decode_op (op := 0x94) rfl t
theorem RoundTrip.subL : Statement .subL :=
  fun t => decode_op (op := 0x95) rfl t
theorem RoundTrip.subAtHl : Statement .subAtHl :=
  fun t => decode_op (op := 0x96) rfl t
theorem RoundTrip.subA : Statement .subA :=
  fun t => decode_op (op := 0x97) rfl t
theorem RoundTrip.sbcAB : Statement .sbcAB :=
  fun t => decode_op (op := 0x98) rfl t
theorem RoundTrip.sbcAC : Statement .sbcAC :=
  fun t => decode_op (op := 0x99) rfl t
theorem RoundTrip.sbcAD : Statement .sbcAD :=
  fun t => decode_op (op := 0x9A) rfl t
theorem RoundTrip.sbcAE : Statement .sbcAE :=
  fun t => decode_op (op := 0x9B) rfl t
theorem RoundTrip.sbcAH : Statement .sbcAH :=
  fun t => decode_op (op := 0x9C) rfl t
theorem RoundTrip.sbcAL : Statement .sbcAL :=
  fun t => decode_op (op := 0x9D) rfl t
theorem RoundTrip.sbcAAtHl : Statement .sbcAAtHl :=
  fun t => decode_op (op := 0x9E) rfl t
theorem RoundTrip.sbcAA : Statement .sbcAA :=
  fun t => decode_op (op := 0x9F) rfl t
theorem RoundTrip.andB : Statement .andB :=
  fun t => decode_op (op := 0xA0) rfl t
theorem RoundTrip.andC : Statement .andC :=
  fun t => decode_op (op := 0xA1) rfl t
theorem RoundTrip.andD : Statement .andD :=
  fun t => decode_op (op := 0xA2) rfl t
theorem RoundTrip.andE : Statement .andE :=
  fun t => decode_op (op := 0xA3) rfl t
theorem RoundTrip.andH : Statement .andH :=
  fun t => decode_op (op := 0xA4) rfl t
theorem RoundTrip.andL : Statement .andL :=
  fun t => decode_op (op := 0xA5) rfl t
theorem RoundTrip.andAtHl : Statement .andAtHl :=
  fun t => decode_op (op := 0xA6) rfl t
theorem RoundTrip.andA : Statement .andA :=
  fun t => decode_op (op := 0xA7) rfl t
theorem RoundTrip.xorB : Statement .xorB :=
  fun t => decode_op (op := 0xA8) rfl t
theorem RoundTrip.xorC : Statement .xorC :=
  fun t => decode_op (op := 0xA9) rfl t
theorem RoundTrip.xorD : Statement .xorD :=
  fun t => decode_op (op := 0xAA) rfl t
theorem RoundTrip.xorE : Statement .xorE :=
  fun t => decode_op (op := 0xAB) rfl t
theorem RoundTrip.xorH : Statement .xorH :=
  fun t => decode_op (op := 0xAC) rfl t
theorem RoundTrip.xorL : Statement .xorL :=
  fun t => decode_op (op := 0xAD) rfl t
theorem RoundTrip.xorAtHl : Statement .xorAtHl :=
  fun t => decode_op (op := 0xAE) rfl t
theorem RoundTrip.xorA : Statement .xorA :=
  fun t => decode_op (op := 0xAF) rfl t
theorem RoundTrip.orB : Statement .orB :=
  fun t => decode_op (op := 0xB0) rfl t
theorem RoundTrip.orC : Statement .orC :=
  fun t => decode_op (op := 0xB1) rfl t
theorem RoundTrip.orD : Statement .orD :=
  fun t => decode_op (op := 0xB2) rfl t
theorem RoundTrip.orE : Statement .orE :=
  fun t => decode_op (op := 0xB3) rfl t
theorem RoundTrip.orH : Statement .orH :=
  fun t => decode_op (op := 0xB4) rfl t
theorem RoundTrip.orL : Statement .orL :=
  fun t => decode_op (op := 0xB5) rfl t
theorem RoundTrip.orAtHl : Statement .orAtHl :=
  fun t => decode_op (op := 0xB6) rfl t
theorem RoundTrip.orA : Statement .orA :=
  fun t => decode_op (op := 0xB7) rfl t
theorem RoundTrip.cpB : Statement .cpB :=
  fun t => decode_op (op := 0xB8) rfl t
theorem RoundTrip.cpC : Statement .cpC :=
  fun t => decode_op (op := 0xB9) rfl t
theorem RoundTrip.cpD : Statement .cpD :=
  fun t => decode_op (op := 0xBA) rfl t
theorem RoundTrip.cpE : Statement .cpE :=
  fun t => decode_op (op := 0xBB) rfl t
theorem RoundTrip.cpH : Statement .cpH :=
  fun t => decode_op (op := 0xBC) rfl t
theorem RoundTrip.cpL : Statement .cpL :=
  fun t => decode_op (op := 0xBD) rfl t
theorem RoundTrip.cpAtHl : Statement .cpAtHl :=
  fun t => decode_op (op := 0xBE) rfl t
theorem RoundTrip.cpA : Statement .cpA :=
  fun t => decode_op (op := 0xBF) rfl t
theorem RoundTrip.retNz : Statement .retNz :=
  fun t => decode_op (op := 0xC0) rfl t
theorem RoundTrip.popBc : Statement .popBc :=
  fun t => decode_op (op := 0xC1) rfl t
theorem RoundTrip.jpNzA16 (a16 : Word) : Statement (.jpNzA16 a16) :=
  fun t => decode_operand16 (op := 0xC2) (form := .jpNzA16) rfl a16 t
theorem RoundTrip.jpA16 (a16 : Word) : Statement (.jpA16 a16) :=
  fun t => decode_operand16 (op := 0xC3) (form := .jpA16) rfl a16 t
theorem RoundTrip.callNzA16 (a16 : Word) : Statement (.callNzA16 a16) :=
  fun t => decode_operand16 (op := 0xC4) (form := .callNzA16) rfl a16 t
theorem RoundTrip.pushBc : Statement .pushBc :=
  fun t => decode_op (op := 0xC5) rfl t
theorem RoundTrip.addAD8 (d8 : Byte) : Statement (.addAD8 d8) :=
  fun t => decode_operand8 (op := 0xC6) (form := .addAD8) rfl d8 t
theorem RoundTrip.rst00 : Statement .rst00 :=
  fun t => decode_op (op := 0xC7) rfl t
theorem RoundTrip.retZ : Statement .retZ :=
  fun t => decode_op (op := 0xC8) rfl t
theorem RoundTrip.ret : Statement .ret :=
  fun t => decode_op (op := 0xC9) rfl t
theorem RoundTrip.jpZA16 (a16 : Word) : Statement (.jpZA16 a16) :=
  fun t => decode_operand16 (op := 0xCA) (form := .jpZA16) rfl a16 t
theorem RoundTrip.callZA16 (a16 : Word) : Statement (.callZA16 a16) :=
  fun t => decode_operand16 (op := 0xCC) (form := .callZA16) rfl a16 t
theorem RoundTrip.callA16 (a16 : Word) : Statement (.callA16 a16) :=
  fun t => decode_operand16 (op := 0xCD) (form := .callA16) rfl a16 t
theorem RoundTrip.adcAD8 (d8 : Byte) : Statement (.adcAD8 d8) :=
  fun t => decode_operand8 (op := 0xCE) (form := .adcAD8) rfl d8 t
theorem RoundTrip.rst08 : Statement .rst08 :=
  fun t => decode_op (op := 0xCF) rfl t
theorem RoundTrip.retNc : Statement .retNc :=
  fun t => decode_op (op := 0xD0) rfl t
theorem RoundTrip.popDe : Statement .popDe :=
  fun t => decode_op (op := 0xD1) rfl t
theorem RoundTrip.jpNcA16 (a16 : Word) : Statement (.jpNcA16 a16) :=
  fun t => decode_operand16 (op := 0xD2) (form := .jpNcA16) rfl a16 t
theorem RoundTrip.callNcA16 (a16 : Word) : Statement (.callNcA16 a16) :=
  fun t => decode_operand16 (op := 0xD4) (form := .callNcA16) rfl a16 t
theorem RoundTrip.pushDe : Statement .pushDe :=
  fun t => decode_op (op := 0xD5) rfl t
theorem RoundTrip.subD8 (d8 : Byte) : Statement (.subD8 d8) :=
  fun t => decode_operand8 (op := 0xD6) (form := .subD8) rfl d8 t
theorem RoundTrip.rst10 : Statement .rst10 :=
  fun t => decode_op (op := 0xD7) rfl t
theorem RoundTrip.retC : Statement .retC :=
  fun t => decode_op (op := 0xD8) rfl t
theorem RoundTrip.diD9 : Statement .diD9 :=
  fun t => decode_op (op := 0xD9) rfl t
theorem RoundTrip.jpCA16 (a16 : Word) : Statement (.jpCA16 a16) :=
  fun t => decode_operand16 (op := 0xDA) (form := .jpCA16) rfl a16 t
theorem RoundTrip.callCA16 (a16 : Word) : Statement (.callCA16 a16) :=
  fun t => decode_operand16 (op := 0xDC) (form := .callCA16) rfl a16 t
theorem RoundTrip.sbcAD8 (d8 : Byte) : Statement (.sbcAD8 d8) :=
  fun t => decode_operand8 (op := 0xDE) (form := .sbcAD8) rfl d8 t
theorem RoundTrip.rst18 : Statement .rst18 :=
  fun t => decode_op (op := 0xDF) rfl t
theorem RoundTrip.ldAtIoA8A (a8 : Byte) : Statement (.ldAtIoA8A a8) :=
  fun t => decode_operand8 (op := 0xE0) (form := .ldAtIoA8A) rfl a8 t
theorem RoundTrip.popHl : Statement .popHl :=
  fun t => decode_op (op := 0xE1) rfl t
theorem RoundTrip.ldAtIoCA : Statement .ldAtIoCA :=
  fun t => decode_op (op := 0xE2) rfl t
theorem RoundTrip.pushHl : Statement .pushHl :=
  fun t => decode_op (op := 0xE5) rfl t
theorem RoundTrip.andD8 (d8 : Byte) : Statement (.andD8 d8) :=
  fun t => decode_operand8 (op := 0xE6) (form := .andD8) rfl d8 t
theorem RoundTrip.rst20 : Statement .rst20 :=
  fun t => decode_op (op := 0xE7) rfl t
theorem RoundTrip.addSpR8 (r8 : Byte) : Statement (.addSpR8 r8) :=
  fun t => decode_operand8 (op := 0xE8) (form := .addSpR8) rfl r8 t
theorem RoundTrip.jpHl : Statement .jpHl :=
  fun t => decode_op (op := 0xE9) rfl t
theorem RoundTrip.ldAtA16A (a16 : Word) : Statement (.ldAtA16A a16) :=
  fun t => decode_operand16 (op := 0xEA) (form := .ldAtA16A) rfl a16 t
theorem RoundTrip.xorD8 (d8 : Byte) : Statement (.xorD8 d8) :=
  fun t => decode_operand8 (op := 0xEE) (form := .xorD8) rfl d8 t
theorem RoundTrip.rst28 : Statement .rst28 :=
  fun t => decode_op (op := 0xEF) rfl t
theorem RoundTrip.ldAAtIoA8 (a8 : Byte) : Statement (.ldAAtIoA8 a8) :=
  fun t => decode_operand8 (op := 0xF0) (form := .ldAAtIoA8) rfl a8 t
theorem RoundTrip.popAf : Statement .popAf :=
  fun t => decode_op (op := 0xF1) rfl t
theorem RoundTrip.ldAAtIoC : Statement .ldAAtIoC :=
  fun t => decode_op (op := 0xF2) rfl t
theorem RoundTrip.diF3 : Statement .diF3 :=
  fun t => decode_op (op := 0xF3) rfl t
theorem RoundTrip.pushAf : Statement .pushAf :=
  fun t => decode_op (op := 0xF5) rfl t
theorem RoundTrip.orD8 (d8 : Byte) : Statement (.orD8 d8) :=
  fun t => decode_operand8 (op := 0xF6) (form := .orD8) rfl d8 t
theorem RoundTrip.rst30 : Statement .rst30 :=
  fun t => decode_op (op := 0xF7) rfl t
theorem RoundTrip.ldHlSpR8 (r8 : Byte) : Statement (.ldHlSpR8 r8) :=
  fun t => decode_operand8 (op := 0xF8) (form := .ldHlSpR8) rfl r8 t
theorem RoundTrip.ldSpHl : Statement .ldSpHl :=
  fun t => decode_op (op := 0xF9) rfl t
theorem RoundTrip.ldAAtA16 (a16 : Word) : Statement (.ldAAtA16 a16) :=
  fun t => decode_operand16 (op := 0xFA) (form := .ldAAtA16) rfl a16 t
theorem RoundTrip.ei : Statement .ei :=
  fun t => decode_op (op := 0xFB) rfl t
theorem RoundTrip.cpD8 (d8 : Byte) : Statement (.cpD8 d8) :=
  fun t => decode_operand8 (op := 0xFE) (form := .cpD8) rfl d8 t
theorem RoundTrip.rst38 : Statement .rst38 :=
  fun t => decode_op (op := 0xFF) rfl t
theorem RoundTrip.cbPrefix : Statement .cbPrefix :=
  fun t => decode_op (op := 0xCB) rfl t
theorem RoundTrip.unlistedD3 : Statement .unlistedD3 :=
  fun t => decode_op (op := 0xD3) rfl t
theorem RoundTrip.unlistedDB : Statement .unlistedDB :=
  fun t => decode_op (op := 0xDB) rfl t
theorem RoundTrip.unlistedDD : Statement .unlistedDD :=
  fun t => decode_op (op := 0xDD) rfl t
theorem RoundTrip.unlistedE3 : Statement .unlistedE3 :=
  fun t => decode_op (op := 0xE3) rfl t
theorem RoundTrip.unlistedE4 : Statement .unlistedE4 :=
  fun t => decode_op (op := 0xE4) rfl t
theorem RoundTrip.unlistedEB : Statement .unlistedEB :=
  fun t => decode_op (op := 0xEB) rfl t
theorem RoundTrip.unlistedEC : Statement .unlistedEC :=
  fun t => decode_op (op := 0xEC) rfl t
theorem RoundTrip.unlistedED : Statement .unlistedED :=
  fun t => decode_op (op := 0xED) rfl t
theorem RoundTrip.unlistedF4 : Statement .unlistedF4 :=
  fun t => decode_op (op := 0xF4) rfl t
theorem RoundTrip.unlistedFC : Statement .unlistedFC :=
  fun t => decode_op (op := 0xFC) rfl t
theorem RoundTrip.unlistedFD : Statement .unlistedFD :=
  fun t => decode_op (op := 0xFD) rfl t

end Sys2Proof.Laws
end

