-- ==== Sys2Proof/Laws/Safety.lean ====
section
/-! SUPPORT. The terms of Safety.lean in the terms of the operations. -/

namespace Sys2Proof.Machine

/-- 256 x + y is the word x:y (R9). -/
theorem ofNat_bytes (x y : Byte) : (BitVec.ofNat 16 (256 * x.toNat + y.toNat) : Word) = joinBytes x y := by
  apply BitVec.eq_of_toNat_eq
  rw [joinBytes_toNat, BitVec.toNat_ofNat]
  omega

theorem ofNat_high (v : Word) : (BitVec.ofNat 8 (v.toNat / 256) : Byte) = highByte v := by
  apply BitVec.eq_of_toNat_eq
  rw [highByte_toNat, BitVec.toNat_ofNat]
  omega

theorem ofNat_low (v : Word) : (BitVec.ofNat 8 (v.toNat % 256) : Byte) = lowByte v := by
  apply BitVec.eq_of_toNat_eq
  rw [lowByte_toNat, BitVec.toNat_ofNat]
  omega

theorem ofNat_ioAddress (o : Byte) : (BitVec.ofNat 16 (0xFF00 + o.toNat) : Word) = ioAddress o := by
  apply BitVec.eq_of_toNat_eq
  rw [ioAddress_toNat, BitVec.toNat_ofNat]
  omega

theorem State.keeps_eq (s : State) (a : Word) (v : Byte) : s.keeps a v = s.latched a v := by
  unfold State.keeps State.latched State.highBitsFixed
  cases h : s.config.irq <;> simp [ifAddress]

/-- One bus write stores one byte. -/
theorem storedByte_of_memWrite {s t : State} {a : Word} {v : Byte} (hm : t.mem = (s.memWrite a v).mem)
    (hc : t.config = s.config) : StoredByte s t a v := by
  intro b hb
  rw [State.peek_congr_off (s := s.memWrite a v) hb hm hc, State.peek_memWrite hb, State.keeps_eq]

theorem storedWord_iff {s t : State} {a : Word} {v : Word} :
    StoredWord s t a v ↔ (∀ b, s.onPlatform b = false → t.peek b =
      if b = a then s.latched b (lowByte v) else if b = a + 1 then s.latched b (highByte v) else s.peek b) := by
  simp only [StoredWord, State.keeps_eq, ofNat_high, ofNat_low]

/-- PUSH16 stores the word at the new SP. -/
theorem storedWord_of_push16 {s t : State} {v : Word} (hm : t.mem = (s.push16 v).mem) (hc : t.config = s.config) :
    StoredWord s t (s.sp - 2) v := by
  have h : s.sp - 2 + 1 = s.sp - 1 := by bv_omega
  rw [storedWord_iff]
  intro b hb
  have hp : (s.push16 v).onPlatform b = false := hb
  rw [State.peek_congr_off hp hm hc, State.peek_push16 hb, h]

/-- A state with the same memory and parameters stores nothing. -/
theorem storedNothing_of_mem {s t : State} (hm : t.mem = s.mem) (hc : t.config = s.config) : StoredNothing s t :=
  fun _ hb => State.peek_congr_off hb hm hc

/-- Reading a word in the terms of POP16. -/
theorem State.pop16_readWord (s : State) : s.pop16 = ((s.readWord s.sp).1, { (s.readWord s.sp).2 with sp := s.sp + 2 }) := by
  rw [State.pop16_reads, State.readWord, ← ofNat_bytes, Nat.add_comm]

/-- Reading a word away from the platform's own bus changes the record alone. -/
theorem State.readWord_off {s : State} {a : Word} (h0 : s.onPlatform a = false) (h1 : s.onPlatform (a + 1) = false) :
    s.readWord a = (joinBytes (s.peek (a + 1)) (s.peek a),
      { s with busLog := s.busLog.map (fun l => l ++ [.read a (s.peek a), .read (a + 1) (s.peek (a + 1))]) }) := by
  have h1' : (s.record (.read a (s.peek a))).onPlatform (a + 1) = false := h1
  rw [State.readWord, State.memRead_off h0]
  dsimp only
  rw [State.memRead_off h1', State.peek_record, ← ofNat_bytes, Nat.add_comm]
  simp only [State.record]
  cases s.busLog <;> simp

/-- A byte written to a location without fixed bits is latched as it is. -/
theorem State.latched_of_ne {s : State} {a : Word} (h : s.config.irq = .gameBoy → a ≠ 0xFF0F) (v : Byte) :
    s.latched a v = v := by
  rw [← State.keeps_eq, State.keeps]
  exact if_neg fun hc => h hc.1 hc.2

/-- A word stored in plain bytes is the word read there. -/
theorem readWord_of_storedWord {s t : State} {a v : Word} (h : StoredWord s t a v) (hc : t.config = s.config)
    (h0 : s.onPlatform a = false) (h1 : s.onPlatform (a + 1) = false)
    (hf : s.config.irq = .gameBoy → a ≠ 0xFF0F ∧ a + 1 ≠ 0xFF0F) : (t.readWord a).1 = v := by
  have hne : a + 1 ≠ a := by bv_omega
  rw [storedWord_iff] at h
  rw [State.readWord_off ((State.onPlatform_congr hc a).trans h0) ((State.onPlatform_congr hc (a + 1)).trans h1),
    h a h0, h (a + 1) h1, if_neg hne, if_pos rfl, if_pos rfl,
    State.latched_of_ne fun hc => (hf hc).1, State.latched_of_ne fun hc => (hf hc).2, joinBytes_high_low]

end Sys2Proof.Machine
end

