-- ==== Sys2Proof/Laws/Step.lean ====
section
/-! SUPPORT. The stages of a step: what each answers, by what the state is about to do (R510). -/

namespace Sys2Proof.Machine

/-- A step where no input is left and the CPU runs. -/
theorem step_of_running {s : State} (hi : s.inputs = []) (hm : s.mode = .running) :
    step s = s.runFromInterruptCheck := by
  show s.takeInput.2.runStages _ = _
  rw [State.takeInput_nil hi]
  simp [State.runStages, hm]

/-- Stages 1 and 2 of a machine that is awake: the mode is Running from there on. -/
theorem State.runStages_of_awake {s : State} {b : Bool} (h : s.awake b) :
    s.runStages b = { s with mode := .running }.runFromInterruptCheck := by
  have e : s.mode = .running → { s with mode := .running } = s := by
    intro hm; apply State.ext <;> simp [hm]
  rcases h with hm | ⟨hm, hr⟩ | ⟨hm, hr⟩
  · simp [runStages, hm, e]
  · simp [runStages, hm, hr]
  · simp [runStages, hm, hr]

/-- Stages 1 and 2 of a machine that is not awake: the step is over. -/
theorem State.runStages_of_not_awake {s : State} {b : Bool} (h : ¬ s.awake b) : s.runStages b = .next s := by
  unfold awake at h
  unfold runStages
  split <;> simp_all

/-- Stage 3 where no interrupt is due. -/
theorem State.runFromInterruptCheck_of_not_due {s : State} (h : ¬ s.interruptDue) :
    s.runFromInterruptCheck = s.delayedEnable.runInstruction := by
  unfold interruptDue at h
  unfold runFromInterruptCheck
  have hs := s.irqSelect_isSome
  cases hi : s.ime
  · simp
  · cases hx : s.irqSelect with
    | none => simp
    | some x => simp [hx] at hs; simp [hi, ← hs] at h

/-- Stage 3 where an interrupt is due: there is a source to serve, and trap entry is the whole step. -/
theorem State.runFromInterruptCheck_of_due {s : State} (h : s.interruptDue) :
    ∃ v s', s.irqSelect = some (v, s') ∧ s.runFromInterruptCheck = .next (s'.trapEntry v) := by
  have hs := s.irqSelect_isSome
  cases hx : s.irqSelect with
  | none => rw [hx, h.2] at hs; cases hs
  | some x => exact ⟨x.1, x.2, rfl, by simp [runFromInterruptCheck, h.1, hx]⟩

/-- Which source is selected does not depend on the mode. -/
theorem State.irqSelect_setMode (s : State) (m : Mode) :
    ({ s with mode := m } : State).irqSelect = s.irqSelect.map (fun x => (x.1, { x.2 with mode := m })) := by
  unfold irqSelect
  cases h : s.config.irq with
  | noInterrupts => simp
  | external => cases h2 : s.irqRequests <;> simp
  | gameBoy => simp [acknowledge, pendingSources, Function.comp_def]
  | gameBoyFlat => simp [acknowledge, pendingSources, Function.comp_def]
  | platform => simp [Function.comp_def]

/-- Whether a source requests depends on memory, the state of the platform's bus, the requests held and the parameters
alone. -/
theorem State.irqRequested_congr {s t : State} (hm : t.mem = s.mem) (hb : t.bus = s.bus)
    (hc : t.config = s.config) (hr : t.irqRequests = s.irqRequests) : t.irqRequested = s.irqRequested := by
  unfold irqRequested pendingSources
  rw [hm, hb, hc, hr]

/-- A machine that is awake and has no interrupt due runs an instruction from the state in which stage 5 begins. -/
theorem State.runStages_of_not_due {s : State} {b : Bool} (ha : s.awake b) (hd : ¬ s.interruptDue) :
    s.runStages b = s.ready.runInstruction := by
  have hd' : ¬ ({ s with mode := .running } : State).interruptDue := hd
  rw [runStages_of_awake ha, runFromInterruptCheck_of_not_due hd', delayedEnable_eq]
  rfl

/-- A machine that is awake and has an interrupt due takes it: there is a source to serve, and trap entry is the whole
step. -/
theorem State.runStages_of_due {s : State} {b : Bool} (ha : s.awake b) (hd : s.interruptDue) :
    ∃ v s', s.irqSelect = some (v, s') ∧ s.runStages b = .next (s'.trapEntry v) := by
  have hs := s.irqSelect_isSome
  rw [hd.2] at hs
  obtain ⟨⟨v, s'⟩, hx⟩ := Option.isSome_iff_exists.mp hs
  refine ⟨v, s', hx, ?_⟩
  rw [runStages_of_awake ha, runFromInterruptCheck, irqSelect_setMode, hx]
  simp only [hd.1, if_true, Option.map_some]
  rfl

/-- Where the bytes read from pc on decode to an instruction, the fetch gives it, and reads just these bytes (R91,
R100). -/
theorem State.fetch_of_readBytes {s : State} {n : Nat} {i : Instr}
    (h : decode (s.readBytes s.pc n).1 = .ok (i, [])) : s.fetch = (i, (s.readBytes s.pc n).2) := by
  have e1 : s.pc + 1 + 1 = s.pc + 2 := by bv_omega
  obtain ⟨op, rest, hb, hr⟩ := decode_ok h
  rw [State.fetch_reads]
  match n with
  | 0 => simp [State.readBytes] at hb
  | 1 =>
    simp only [State.readBytes, List.cons.injEq, State.memRead_fst] at hb
    obtain ⟨rfl, rfl⟩ := hb
    rcases hr with ⟨h1, -⟩ | ⟨f, v, -, h2, -⟩ | ⟨f, v, -, h2, -⟩
    · simp only [h1, State.readBytes]
    · simp at h2
    · simp at h2
  | 2 =>
    simp only [State.readBytes, List.cons.injEq, State.memRead_fst] at hb
    obtain ⟨rfl, rfl⟩ := hb
    rcases hr with ⟨-, h2⟩ | ⟨f, v, h1, h2, rfl⟩ | ⟨f, v, -, h2, -⟩
    · simp at h2
    · simp only [List.cons.injEq, and_true] at h2
      subst h2
      simp only [h1, State.readBytes, State.memRead_fst]
    · simp at h2
  | 3 =>
    simp only [State.readBytes, List.cons.injEq, State.memRead_fst, e1] at hb
    obtain ⟨rfl, rfl⟩ := hb
    rcases hr with ⟨-, h2⟩ | ⟨f, v, -, h2, -⟩ | ⟨f, v, h1, h2, rfl⟩
    · simp at h2
    · simp at h2
    · simp only [List.cons.injEq, and_true] at h2
      simp only [h1, State.readBytes, State.memRead_fst, e1, h2.1, h2.2, joinBytes_high_low]
  | n + 4 =>
    simp only [State.readBytes, List.cons.injEq] at hb
    obtain ⟨-, rfl⟩ := hb
    rcases hr with ⟨-, h2⟩ | ⟨f, v, -, h2, -⟩ | ⟨f, v, -, h2, -⟩ <;> simp at h2

end Sys2Proof.Machine
end

