-- ==== Sys2Proof/Laws/Tables.lean ====
section
/-! SUPPORT. The tables of Safety.lean (R33, R37, R78) read at each group of instructions, for `simp`: a proof never has
to unfold a table. -/

namespace Sys2Proof.Machine

/-! ### Who writes the flags -/

@[simp] theorem flagEffects_ldRegReg (dst src : Reg8) :
    flagEffects (Instr.ldRegReg dst src) = ⟨.kept, .kept, .kept, .kept⟩ := by cases dst <;> cases src <;> rfl
@[simp] theorem flagEffects_ldRegAtHl (dst : Reg8) :
    flagEffects (Instr.ldRegAtHl dst) = ⟨.kept, .kept, .kept, .kept⟩ := by cases dst <;> rfl
@[simp] theorem flagEffects_ldAtHlReg (src : Reg8) :
    flagEffects (Instr.ldAtHlReg src) = ⟨.kept, .kept, .kept, .kept⟩ := by cases src <;> rfl
@[simp] theorem flagEffects_ldRegD8 (dst : Reg8) (d8 : Byte) :
    flagEffects (Instr.ldRegD8 dst d8) = ⟨.kept, .kept, .kept, .kept⟩ := by cases dst <;> rfl
@[simp] theorem flagEffects_incReg8 (r : Reg8) :
    flagEffects (Instr.incReg8 r) = ⟨.computed, .cleared, .computed, .kept⟩ := by cases r <;> rfl
@[simp] theorem flagEffects_decReg8 (r : Reg8) :
    flagEffects (Instr.decReg8 r) = ⟨.computed, .set, .computed, .kept⟩ := by cases r <;> rfl
@[simp] theorem flagEffects_alu (op : AluOp) (x : Operand8) :
    flagEffects (Instr.alu op x) = match op with
      | .add | .adc => ⟨.computed, .cleared, .computed, .computed⟩
      | .sub | .sbc | .cp => ⟨.computed, .set, .computed, .computed⟩
      | .and => ⟨.computed, .cleared, .set, .cleared⟩
      | .xor | .or => ⟨.computed, .cleared, .cleared, .cleared⟩ := by
  cases op <;> rcases x with r | _ | _ <;> first | rfl | (cases r <;> rfl)
@[simp] theorem flagEffects_ldPairD16 (r : Reg16) (d16 : Word) :
    flagEffects (Instr.ldPairD16 r d16) = ⟨.kept, .kept, .kept, .kept⟩ := by cases r <;> rfl
@[simp] theorem flagEffects_incPair (r : Reg16) :
    flagEffects (Instr.incPair r) = ⟨.kept, .kept, .kept, .kept⟩ := by cases r <;> rfl
@[simp] theorem flagEffects_decPair (r : Reg16) :
    flagEffects (Instr.decPair r) = ⟨.kept, .kept, .kept, .kept⟩ := by cases r <;> rfl
@[simp] theorem flagEffects_addHlPair (r : Reg16) :
    flagEffects (Instr.addHlPair r) = ⟨.kept, .cleared, .computed, .computed⟩ := by cases r <;> rfl
@[simp] theorem flagEffects_pushStack (r : StackReg) :
    flagEffects (Instr.pushStack r) = ⟨.kept, .kept, .kept, .kept⟩ := by cases r <;> rfl
@[simp] theorem flagEffects_popStack (r : StackReg) :
    flagEffects (Instr.popStack r) = if r = .af then ⟨.computed, .computed, .computed, .computed⟩ else ⟨.kept, .kept, .kept, .kept⟩ := by cases r <;> rfl
@[simp] theorem flagEffects_jrCond (cc : Cond) (r8 : Byte) :
    flagEffects (Instr.jrCond cc r8) = ⟨.kept, .kept, .kept, .kept⟩ := by cases cc <;> rfl
@[simp] theorem flagEffects_jpCond (cc : Cond) (a16 : Word) :
    flagEffects (Instr.jpCond cc a16) = ⟨.kept, .kept, .kept, .kept⟩ := by cases cc <;> rfl
@[simp] theorem flagEffects_callCond (cc : Cond) (a16 : Word) :
    flagEffects (Instr.callCond cc a16) = ⟨.kept, .kept, .kept, .kept⟩ := by cases cc <;> rfl
@[simp] theorem flagEffects_retCond (cc : Cond) :
    flagEffects (Instr.retCond cc) = ⟨.kept, .kept, .kept, .kept⟩ := by cases cc <;> rfl
@[simp] theorem flagEffects_rst (y : Fin 8) :
    flagEffects (Instr.rst y) = ⟨.kept, .kept, .kept, .kept⟩ := by fin_cases y <;> rfl
@[simp] theorem flagEffects_nop :
    flagEffects .nop = ⟨.kept, .kept, .kept, .kept⟩ := rfl
@[simp] theorem flagEffects_ldAtBcA :
    flagEffects .ldAtBcA = ⟨.kept, .kept, .kept, .kept⟩ := rfl
@[simp] theorem flagEffects_rlca :
    flagEffects .rlca = ⟨.cleared, .cleared, .cleared, .computed⟩ := rfl
@[simp] theorem flagEffects_ldAtA16Sp (a16 : Word) :
    flagEffects (.ldAtA16Sp a16) = ⟨.kept, .kept, .kept, .kept⟩ := rfl
@[simp] theorem flagEffects_ldAAtBc :
    flagEffects .ldAAtBc = ⟨.kept, .kept, .kept, .kept⟩ := rfl
@[simp] theorem flagEffects_rrca :
    flagEffects .rrca = ⟨.cleared, .cleared, .cleared, .computed⟩ := rfl
@[simp] theorem flagEffects_stop :
    flagEffects .stop = ⟨.kept, .kept, .kept, .kept⟩ := rfl
@[simp] theorem flagEffects_ldAtDeA :
    flagEffects .ldAtDeA = ⟨.kept, .kept, .kept, .kept⟩ := rfl
@[simp] theorem flagEffects_rla :
    flagEffects .rla = ⟨.cleared, .cleared, .cleared, .computed⟩ := rfl
@[simp] theorem flagEffects_jrR8 (r8 : Byte) :
    flagEffects (.jrR8 r8) = ⟨.kept, .kept, .kept, .kept⟩ := rfl
@[simp] theorem flagEffects_ldAAtDe :
    flagEffects .ldAAtDe = ⟨.kept, .kept, .kept, .kept⟩ := rfl
@[simp] theorem flagEffects_rra :
    flagEffects .rra = ⟨.cleared, .cleared, .cleared, .computed⟩ := rfl
@[simp] theorem flagEffects_ldAtHlIncA :
    flagEffects .ldAtHlIncA = ⟨.kept, .kept, .kept, .kept⟩ := rfl
@[simp] theorem flagEffects_daa :
    flagEffects .daa = ⟨.computed, .kept, .cleared, .computed⟩ := rfl
@[simp] theorem flagEffects_ldAAtHlInc :
    flagEffects .ldAAtHlInc = ⟨.kept, .kept, .kept, .kept⟩ := rfl
@[simp] theorem flagEffects_cpl :
    flagEffects .cpl = ⟨.kept, .set, .set, .kept⟩ := rfl
@[simp] theorem flagEffects_ldAtHlDecA :
    flagEffects .ldAtHlDecA = ⟨.kept, .kept, .kept, .kept⟩ := rfl
@[simp] theorem flagEffects_incAtHl :
    flagEffects .incAtHl = ⟨.computed, .cleared, .computed, .kept⟩ := rfl
@[simp] theorem flagEffects_decAtHl :
    flagEffects .decAtHl = ⟨.computed, .set, .computed, .kept⟩ := rfl
@[simp] theorem flagEffects_ldAtHlD8 (d8 : Byte) :
    flagEffects (.ldAtHlD8 d8) = ⟨.kept, .kept, .kept, .kept⟩ := rfl
@[simp] theorem flagEffects_scf :
    flagEffects .scf = ⟨.kept, .cleared, .cleared, .set⟩ := rfl
@[simp] theorem flagEffects_ldAAtHlDec :
    flagEffects .ldAAtHlDec = ⟨.kept, .kept, .kept, .kept⟩ := rfl
@[simp] theorem flagEffects_ccf :
    flagEffects .ccf = ⟨.kept, .cleared, .cleared, .computed⟩ := rfl
@[simp] theorem flagEffects_halt :
    flagEffects .halt = ⟨.kept, .kept, .kept, .kept⟩ := rfl
@[simp] theorem flagEffects_jpA16 (a16 : Word) :
    flagEffects (.jpA16 a16) = ⟨.kept, .kept, .kept, .kept⟩ := rfl
@[simp] theorem flagEffects_ret :
    flagEffects .ret = ⟨.kept, .kept, .kept, .kept⟩ := rfl
@[simp] theorem flagEffects_callA16 (a16 : Word) :
    flagEffects (.callA16 a16) = ⟨.kept, .kept, .kept, .kept⟩ := rfl
@[simp] theorem flagEffects_diD9 :
    flagEffects .diD9 = ⟨.kept, .kept, .kept, .kept⟩ := rfl
@[simp] theorem flagEffects_ldAtIoA8A (a8 : Byte) :
    flagEffects (.ldAtIoA8A a8) = ⟨.kept, .kept, .kept, .kept⟩ := rfl
@[simp] theorem flagEffects_ldAtIoCA :
    flagEffects .ldAtIoCA = ⟨.kept, .kept, .kept, .kept⟩ := rfl
@[simp] theorem flagEffects_addSpR8 (r8 : Byte) :
    flagEffects (.addSpR8 r8) = ⟨.cleared, .cleared, .computed, .computed⟩ := rfl
@[simp] theorem flagEffects_jpHl :
    flagEffects .jpHl = ⟨.kept, .kept, .kept, .kept⟩ := rfl
@[simp] theorem flagEffects_ldAtA16A (a16 : Word) :
    flagEffects (.ldAtA16A a16) = ⟨.kept, .kept, .kept, .kept⟩ := rfl
@[simp] theorem flagEffects_ldAAtIoA8 (a8 : Byte) :
    flagEffects (.ldAAtIoA8 a8) = ⟨.kept, .kept, .kept, .kept⟩ := rfl
@[simp] theorem flagEffects_ldAAtIoC :
    flagEffects .ldAAtIoC = ⟨.kept, .kept, .kept, .kept⟩ := rfl
@[simp] theorem flagEffects_diF3 :
    flagEffects .diF3 = ⟨.kept, .kept, .kept, .kept⟩ := rfl
@[simp] theorem flagEffects_ldHlSpR8 (r8 : Byte) :
    flagEffects (.ldHlSpR8 r8) = ⟨.cleared, .cleared, .computed, .computed⟩ := rfl
@[simp] theorem flagEffects_ldSpHl :
    flagEffects .ldSpHl = ⟨.kept, .kept, .kept, .kept⟩ := rfl
@[simp] theorem flagEffects_ldAAtA16 (a16 : Word) :
    flagEffects (.ldAAtA16 a16) = ⟨.kept, .kept, .kept, .kept⟩ := rfl
@[simp] theorem flagEffects_ei :
    flagEffects .ei = ⟨.kept, .kept, .kept, .kept⟩ := rfl

/-! ### Who writes SP -/

@[simp] theorem mayWriteSp_ldRegReg (dst src : Reg8) :
    mayWriteSp (Instr.ldRegReg dst src) = false := by cases dst <;> cases src <;> rfl
@[simp] theorem mayWriteSp_ldRegAtHl (dst : Reg8) :
    mayWriteSp (Instr.ldRegAtHl dst) = false := by cases dst <;> rfl
@[simp] theorem mayWriteSp_ldAtHlReg (src : Reg8) :
    mayWriteSp (Instr.ldAtHlReg src) = false := by cases src <;> rfl
@[simp] theorem mayWriteSp_ldRegD8 (dst : Reg8) (d8 : Byte) :
    mayWriteSp (Instr.ldRegD8 dst d8) = false := by cases dst <;> rfl
@[simp] theorem mayWriteSp_incReg8 (r : Reg8) :
    mayWriteSp (Instr.incReg8 r) = false := by cases r <;> rfl
@[simp] theorem mayWriteSp_decReg8 (r : Reg8) :
    mayWriteSp (Instr.decReg8 r) = false := by cases r <;> rfl
@[simp] theorem mayWriteSp_alu (op : AluOp) (x : Operand8) :
    mayWriteSp (Instr.alu op x) = false := by
  cases op <;> rcases x with r | _ | _ <;> first | rfl | (cases r <;> rfl)
@[simp] theorem mayWriteSp_ldPairD16 (r : Reg16) (d16 : Word) :
    mayWriteSp (Instr.ldPairD16 r d16) = decide (r = .sp) := by cases r <;> rfl
@[simp] theorem mayWriteSp_incPair (r : Reg16) :
    mayWriteSp (Instr.incPair r) = decide (r = .sp) := by cases r <;> rfl
@[simp] theorem mayWriteSp_decPair (r : Reg16) :
    mayWriteSp (Instr.decPair r) = decide (r = .sp) := by cases r <;> rfl
@[simp] theorem mayWriteSp_addHlPair (r : Reg16) :
    mayWriteSp (Instr.addHlPair r) = false := by cases r <;> rfl
@[simp] theorem mayWriteSp_pushStack (r : StackReg) :
    mayWriteSp (Instr.pushStack r) = true := by cases r <;> rfl
@[simp] theorem mayWriteSp_popStack (r : StackReg) :
    mayWriteSp (Instr.popStack r) = true := by cases r <;> rfl
@[simp] theorem mayWriteSp_jrCond (cc : Cond) (r8 : Byte) :
    mayWriteSp (Instr.jrCond cc r8) = false := by cases cc <;> rfl
@[simp] theorem mayWriteSp_jpCond (cc : Cond) (a16 : Word) :
    mayWriteSp (Instr.jpCond cc a16) = false := by cases cc <;> rfl
@[simp] theorem mayWriteSp_callCond (cc : Cond) (a16 : Word) :
    mayWriteSp (Instr.callCond cc a16) = true := by cases cc <;> rfl
@[simp] theorem mayWriteSp_retCond (cc : Cond) :
    mayWriteSp (Instr.retCond cc) = true := by cases cc <;> rfl
@[simp] theorem mayWriteSp_rst (y : Fin 8) :
    mayWriteSp (Instr.rst y) = true := by fin_cases y <;> rfl
@[simp] theorem mayWriteSp_nop :
    mayWriteSp .nop = false := rfl
@[simp] theorem mayWriteSp_ldAtBcA :
    mayWriteSp .ldAtBcA = false := rfl
@[simp] theorem mayWriteSp_rlca :
    mayWriteSp .rlca = false := rfl
@[simp] theorem mayWriteSp_ldAtA16Sp (a16 : Word) :
    mayWriteSp (.ldAtA16Sp a16) = false := rfl
@[simp] theorem mayWriteSp_ldAAtBc :
    mayWriteSp .ldAAtBc = false := rfl
@[simp] theorem mayWriteSp_rrca :
    mayWriteSp .rrca = false := rfl
@[simp] theorem mayWriteSp_stop :
    mayWriteSp .stop = false := rfl
@[simp] theorem mayWriteSp_ldAtDeA :
    mayWriteSp .ldAtDeA = false := rfl
@[simp] theorem mayWriteSp_rla :
    mayWriteSp .rla = false := rfl
@[simp] theorem mayWriteSp_jrR8 (r8 : Byte) :
    mayWriteSp (.jrR8 r8) = false := rfl
@[simp] theorem mayWriteSp_ldAAtDe :
    mayWriteSp .ldAAtDe = false := rfl
@[simp] theorem mayWriteSp_rra :
    mayWriteSp .rra = false := rfl
@[simp] theorem mayWriteSp_ldAtHlIncA :
    mayWriteSp .ldAtHlIncA = false := rfl
@[simp] theorem mayWriteSp_daa :
    mayWriteSp .daa = false := rfl
@[simp] theorem mayWriteSp_ldAAtHlInc :
    mayWriteSp .ldAAtHlInc = false := rfl
@[simp] theorem mayWriteSp_cpl :
    mayWriteSp .cpl = false := rfl
@[simp] theorem mayWriteSp_ldAtHlDecA :
    mayWriteSp .ldAtHlDecA = false := rfl
@[simp] theorem mayWriteSp_incAtHl :
    mayWriteSp .incAtHl = false := rfl
@[simp] theorem mayWriteSp_decAtHl :
    mayWriteSp .decAtHl = false := rfl
@[simp] theorem mayWriteSp_ldAtHlD8 (d8 : Byte) :
    mayWriteSp (.ldAtHlD8 d8) = false := rfl
@[simp] theorem mayWriteSp_scf :
    mayWriteSp .scf = false := rfl
@[simp] theorem mayWriteSp_ldAAtHlDec :
    mayWriteSp .ldAAtHlDec = false := rfl
@[simp] theorem mayWriteSp_ccf :
    mayWriteSp .ccf = false := rfl
@[simp] theorem mayWriteSp_halt :
    mayWriteSp .halt = false := rfl
@[simp] theorem mayWriteSp_jpA16 (a16 : Word) :
    mayWriteSp (.jpA16 a16) = false := rfl
@[simp] theorem mayWriteSp_ret :
    mayWriteSp .ret = true := rfl
@[simp] theorem mayWriteSp_callA16 (a16 : Word) :
    mayWriteSp (.callA16 a16) = true := rfl
@[simp] theorem mayWriteSp_diD9 :
    mayWriteSp .diD9 = true := rfl
@[simp] theorem mayWriteSp_ldAtIoA8A (a8 : Byte) :
    mayWriteSp (.ldAtIoA8A a8) = false := rfl
@[simp] theorem mayWriteSp_ldAtIoCA :
    mayWriteSp .ldAtIoCA = false := rfl
@[simp] theorem mayWriteSp_addSpR8 (r8 : Byte) :
    mayWriteSp (.addSpR8 r8) = true := rfl
@[simp] theorem mayWriteSp_jpHl :
    mayWriteSp .jpHl = false := rfl
@[simp] theorem mayWriteSp_ldAtA16A (a16 : Word) :
    mayWriteSp (.ldAtA16A a16) = false := rfl
@[simp] theorem mayWriteSp_ldAAtIoA8 (a8 : Byte) :
    mayWriteSp (.ldAAtIoA8 a8) = false := rfl
@[simp] theorem mayWriteSp_ldAAtIoC :
    mayWriteSp .ldAAtIoC = false := rfl
@[simp] theorem mayWriteSp_diF3 :
    mayWriteSp .diF3 = false := rfl
@[simp] theorem mayWriteSp_ldHlSpR8 (r8 : Byte) :
    mayWriteSp (.ldHlSpR8 r8) = false := rfl
@[simp] theorem mayWriteSp_ldSpHl :
    mayWriteSp .ldSpHl = true := rfl
@[simp] theorem mayWriteSp_ldAAtA16 (a16 : Word) :
    mayWriteSp (.ldAAtA16 a16) = false := rfl
@[simp] theorem mayWriteSp_ei :
    mayWriteSp .ei = false := rfl

/-! ### The data accesses -/

@[simp] theorem dataAccesses_ldRegReg (dst src : Reg8) (s : State) :
    dataAccesses (Instr.ldRegReg dst src) s = [] := by cases dst <;> cases src <;> rfl
@[simp] theorem dataAccesses_ldRegAtHl (dst : Reg8) (s : State) :
    dataAccesses (Instr.ldRegAtHl dst) s = [.read s.hl] := by cases dst <;> rfl
@[simp] theorem dataAccesses_ldAtHlReg (src : Reg8) (s : State) :
    dataAccesses (Instr.ldAtHlReg src) s = [.write s.hl] := by cases src <;> rfl
@[simp] theorem dataAccesses_ldRegD8 (dst : Reg8) (d8 : Byte) (s : State) :
    dataAccesses (Instr.ldRegD8 dst d8) s = [] := by cases dst <;> rfl
@[simp] theorem dataAccesses_incReg8 (r : Reg8) (s : State) :
    dataAccesses (Instr.incReg8 r) s = [] := by cases r <;> rfl
@[simp] theorem dataAccesses_decReg8 (r : Reg8) (s : State) :
    dataAccesses (Instr.decReg8 r) s = [] := by cases r <;> rfl
@[simp] theorem dataAccesses_alu (op : AluOp) (x : Operand8) (s : State) :
    dataAccesses (Instr.alu op x) s = match x with
      | .reg _ => []
      | .atHl => [.read s.hl]
      | .d8 _ => [] := by
  cases op <;> rcases x with r | _ | _ <;> first | rfl | (cases r <;> rfl)
@[simp] theorem dataAccesses_ldPairD16 (r : Reg16) (d16 : Word) (s : State) :
    dataAccesses (Instr.ldPairD16 r d16) s = [] := by cases r <;> rfl
@[simp] theorem dataAccesses_incPair (r : Reg16) (s : State) :
    dataAccesses (Instr.incPair r) s = [] := by cases r <;> rfl
@[simp] theorem dataAccesses_decPair (r : Reg16) (s : State) :
    dataAccesses (Instr.decPair r) s = [] := by cases r <;> rfl
@[simp] theorem dataAccesses_addHlPair (r : Reg16) (s : State) :
    dataAccesses (Instr.addHlPair r) s = [] := by cases r <;> rfl
@[simp] theorem dataAccesses_pushStack (r : StackReg) (s : State) :
    dataAccesses (Instr.pushStack r) s = [.write (s.sp - 1), .write (s.sp - 2)] := by cases r <;> rfl
@[simp] theorem dataAccesses_popStack (r : StackReg) (s : State) :
    dataAccesses (Instr.popStack r) s = [.read s.sp, .read (s.sp + 1)] := by cases r <;> rfl
@[simp] theorem dataAccesses_jrCond (cc : Cond) (r8 : Byte) (s : State) :
    dataAccesses (Instr.jrCond cc r8) s = [] := by cases cc <;> rfl
@[simp] theorem dataAccesses_jpCond (cc : Cond) (a16 : Word) (s : State) :
    dataAccesses (Instr.jpCond cc a16) s = [] := by cases cc <;> rfl
@[simp] theorem dataAccesses_callCond (cc : Cond) (a16 : Word) (s : State) :
    dataAccesses (Instr.callCond cc a16) s = if s.holds cc then [.write (s.sp - 1), .write (s.sp - 2)] else [] := by cases cc <;> rfl
@[simp] theorem dataAccesses_retCond (cc : Cond) (s : State) :
    dataAccesses (Instr.retCond cc) s = if s.holds cc then [.read s.sp, .read (s.sp + 1)] else [] := by cases cc <;> rfl
@[simp] theorem dataAccesses_rst (y : Fin 8) (s : State) :
    dataAccesses (Instr.rst y) s = [.write (s.sp - 1), .write (s.sp - 2)] := by fin_cases y <;> rfl
@[simp] theorem dataAccesses_nop (s : State) :
    dataAccesses .nop s = [] := rfl
@[simp] theorem dataAccesses_ldAtBcA (s : State) :
    dataAccesses .ldAtBcA s = [.write s.bc] := rfl
@[simp] theorem dataAccesses_rlca (s : State) :
    dataAccesses .rlca s = [] := rfl
@[simp] theorem dataAccesses_ldAtA16Sp (a16 : Word) (s : State) :
    dataAccesses (.ldAtA16Sp a16) s = [.write a16, .write (a16 + 1)] := rfl
@[simp] theorem dataAccesses_ldAAtBc (s : State) :
    dataAccesses .ldAAtBc s = [.read s.bc] := rfl
@[simp] theorem dataAccesses_rrca (s : State) :
    dataAccesses .rrca s = [] := rfl
@[simp] theorem dataAccesses_stop (s : State) :
    dataAccesses .stop s = if s.config.stopLength = .two then [.read (s.pc + 1)] else [] := rfl
@[simp] theorem dataAccesses_ldAtDeA (s : State) :
    dataAccesses .ldAtDeA s = [.write s.de] := rfl
@[simp] theorem dataAccesses_rla (s : State) :
    dataAccesses .rla s = [] := rfl
@[simp] theorem dataAccesses_jrR8 (r8 : Byte) (s : State) :
    dataAccesses (.jrR8 r8) s = [] := rfl
@[simp] theorem dataAccesses_ldAAtDe (s : State) :
    dataAccesses .ldAAtDe s = [.read s.de] := rfl
@[simp] theorem dataAccesses_rra (s : State) :
    dataAccesses .rra s = [] := rfl
@[simp] theorem dataAccesses_ldAtHlIncA (s : State) :
    dataAccesses .ldAtHlIncA s = [.write s.hl] := rfl
@[simp] theorem dataAccesses_daa (s : State) :
    dataAccesses .daa s = [] := rfl
@[simp] theorem dataAccesses_ldAAtHlInc (s : State) :
    dataAccesses .ldAAtHlInc s = [.read s.hl] := rfl
@[simp] theorem dataAccesses_cpl (s : State) :
    dataAccesses .cpl s = [] := rfl
@[simp] theorem dataAccesses_ldAtHlDecA (s : State) :
    dataAccesses .ldAtHlDecA s = [.write s.hl] := rfl
@[simp] theorem dataAccesses_incAtHl (s : State) :
    dataAccesses .incAtHl s = [.read s.hl, .write s.hl] := rfl
@[simp] theorem dataAccesses_decAtHl (s : State) :
    dataAccesses .decAtHl s = [.read s.hl, .write s.hl] := rfl
@[simp] theorem dataAccesses_ldAtHlD8 (d8 : Byte) (s : State) :
    dataAccesses (.ldAtHlD8 d8) s = [.write s.hl] := rfl
@[simp] theorem dataAccesses_scf (s : State) :
    dataAccesses .scf s = [] := rfl
@[simp] theorem dataAccesses_ldAAtHlDec (s : State) :
    dataAccesses .ldAAtHlDec s = [.read s.hl] := rfl
@[simp] theorem dataAccesses_ccf (s : State) :
    dataAccesses .ccf s = [] := rfl
@[simp] theorem dataAccesses_halt (s : State) :
    dataAccesses .halt s = [] := rfl
@[simp] theorem dataAccesses_jpA16 (a16 : Word) (s : State) :
    dataAccesses (.jpA16 a16) s = [] := rfl
@[simp] theorem dataAccesses_ret (s : State) :
    dataAccesses .ret s = [.read s.sp, .read (s.sp + 1)] := rfl
@[simp] theorem dataAccesses_callA16 (a16 : Word) (s : State) :
    dataAccesses (.callA16 a16) s = [.write (s.sp - 1), .write (s.sp - 2)] := rfl
@[simp] theorem dataAccesses_diD9 (s : State) :
    dataAccesses .diD9 s = if s.config.d9Meaning = .reti then [.read s.sp, .read (s.sp + 1)] else [] := rfl
@[simp] theorem dataAccesses_ldAtIoA8A (a8 : Byte) (s : State) :
    dataAccesses (.ldAtIoA8A a8) s = [.write (ioAddress a8)] := rfl
@[simp] theorem dataAccesses_ldAtIoCA (s : State) :
    dataAccesses .ldAtIoCA s = [.write (ioAddress s.c)] := rfl
@[simp] theorem dataAccesses_addSpR8 (r8 : Byte) (s : State) :
    dataAccesses (.addSpR8 r8) s = [] := rfl
@[simp] theorem dataAccesses_jpHl (s : State) :
    dataAccesses .jpHl s = [] := rfl
@[simp] theorem dataAccesses_ldAtA16A (a16 : Word) (s : State) :
    dataAccesses (.ldAtA16A a16) s = [.write a16] := rfl
@[simp] theorem dataAccesses_ldAAtIoA8 (a8 : Byte) (s : State) :
    dataAccesses (.ldAAtIoA8 a8) s = [.read (ioAddress a8)] := rfl
@[simp] theorem dataAccesses_ldAAtIoC (s : State) :
    dataAccesses .ldAAtIoC s = [.read (ioAddress s.c)] := rfl
@[simp] theorem dataAccesses_diF3 (s : State) :
    dataAccesses .diF3 s = [] := rfl
@[simp] theorem dataAccesses_ldHlSpR8 (r8 : Byte) (s : State) :
    dataAccesses (.ldHlSpR8 r8) s = [] := rfl
@[simp] theorem dataAccesses_ldSpHl (s : State) :
    dataAccesses .ldSpHl s = [] := rfl
@[simp] theorem dataAccesses_ldAAtA16 (a16 : Word) (s : State) :
    dataAccesses (.ldAAtA16 a16) s = [.read a16] := rfl
@[simp] theorem dataAccesses_ei (s : State) :
    dataAccesses .ei s = [] := rfl

end Sys2Proof.Machine
end

