-- ==== Sys2Proof/Machine/Timing.lean ====
section
/-! DEFINITION. The Cycles column of the source table (R7, R570, R571), as data: clock ticks. Informative: no rule
and no meaning depends on it (log 14). -/

namespace Sys2Proof.Machine

/-- The Cycles value of a row: one figure, or two for a conditional transfer (R16, R571). -/
inductive Cycles where
  | always (ticks : Nat)
  | conditional (taken notTaken : Nat)
  deriving DecidableEq, Repr

/-- The Cycles value of each of the 244 instructions; a row that is no instruction has none (R570, R571). -/
def cyclesOf : Instr → Option Cycles
  | .nop => some (.always 4)
  | .ldBcD16 _ => some (.always 12)
  | .ldAtBcA => some (.always 8)
  | .incBc => some (.always 8)
  | .incB => some (.always 4)
  | .decB => some (.always 4)
  | .ldBD8 _ => some (.always 8)
  | .rlca => some (.always 4)
  | .ldAtA16Sp _ => some (.always 20)
  | .addHlBc => some (.always 8)
  | .ldAAtBc => some (.always 8)
  | .decBc => some (.always 8)
  | .incC => some (.always 4)
  | .decC => some (.always 4)
  | .ldCD8 _ => some (.always 8)
  | .rrca => some (.always 4)
  | .stop => some (.always 4)
  | .ldDeD16 _ => some (.always 12)
  | .ldAtDeA => some (.always 8)
  | .incDe => some (.always 8)
  | .incD => some (.always 4)
  | .decD => some (.always 4)
  | .ldDD8 _ => some (.always 8)
  | .rla => some (.always 4)
  | .jrR8 _ => some (.always 12)
  | .addHlDe => some (.always 8)
  | .ldAAtDe => some (.always 8)
  | .decDe => some (.always 8)
  | .incE => some (.always 4)
  | .decE => some (.always 4)
  | .ldED8 _ => some (.always 8)
  | .rra => some (.always 4)
  | .jrNzR8 _ => some (.conditional 12 8)
  | .ldHlD16 _ => some (.always 12)
  | .ldAtHlIncA => some (.always 8)
  | .incHl => some (.always 8)
  | .incH => some (.always 4)
  | .decH => some (.always 4)
  | .ldHD8 _ => some (.always 8)
  | .daa => some (.always 4)
  | .jrZR8 _ => some (.conditional 12 8)
  | .addHlHl => some (.always 8)
  | .ldAAtHlInc => some (.always 8)
  | .decHl => some (.always 8)
  | .incL => some (.always 4)
  | .decL => some (.always 4)
  | .ldLD8 _ => some (.always 8)
  | .cpl => some (.always 4)
  | .jrNcR8 _ => some (.conditional 12 8)
  | .ldSpD16 _ => some (.always 12)
  | .ldAtHlDecA => some (.always 8)
  | .incSp => some (.always 8)
  | .incAtHl => some (.always 12)
  | .decAtHl => some (.always 12)
  | .ldAtHlD8 _ => some (.always 12)
  | .scf => some (.always 4)
  | .jrCR8 _ => some (.conditional 12 8)
  | .addHlSp => some (.always 8)
  | .ldAAtHlDec => some (.always 8)
  | .decSp => some (.always 8)
  | .incA => some (.always 4)
  | .decA => some (.always 4)
  | .ldAD8 _ => some (.always 8)
  | .ccf => some (.always 4)
  | .ldBB => some (.always 4)
  | .ldBC => some (.always 4)
  | .ldBD => some (.always 4)
  | .ldBE => some (.always 4)
  | .ldBH => some (.always 4)
  | .ldBL => some (.always 4)
  | .ldBAtHl => some (.always 8)
  | .ldBA => some (.always 4)
  | .ldCB => some (.always 4)
  | .ldCC => some (.always 4)
  | .ldCD => some (.always 4)
  | .ldCE => some (.always 4)
  | .ldCH => some (.always 4)
  | .ldCL => some (.always 4)
  | .ldCAtHl => some (.always 8)
  | .ldCA => some (.always 4)
  | .ldDB => some (.always 4)
  | .ldDC => some (.always 4)
  | .ldDD => some (.always 4)
  | .ldDE => some (.always 4)
  | .ldDH => some (.always 4)
  | .ldDL => some (.always 4)
  | .ldDAtHl => some (.always 8)
  | .ldDA => some (.always 4)
  | .ldEB => some (.always 4)
  | .ldEC => some (.always 4)
  | .ldED => some (.always 4)
  | .ldEE => some (.always 4)
  | .ldEH => some (.always 4)
  | .ldEL => some (.always 4)
  | .ldEAtHl => some (.always 8)
  | .ldEA => some (.always 4)
  | .ldHB => some (.always 4)
  | .ldHC => some (.always 4)
  | .ldHD => some (.always 4)
  | .ldHE => some (.always 4)
  | .ldHH => some (.always 4)
  | .ldHL => some (.always 4)
  | .ldHAtHl => some (.always 8)
  | .ldHA => some (.always 4)
  | .ldLB => some (.always 4)
  | .ldLC => some (.always 4)
  | .ldLD => some (.always 4)
  | .ldLE => some (.always 4)
  | .ldLH => some (.always 4)
  | .ldLL => some (.always 4)
  | .ldLAtHl => some (.always 8)
  | .ldLA => some (.always 4)
  | .ldAtHlB => some (.always 8)
  | .ldAtHlC => some (.always 8)
  | .ldAtHlD => some (.always 8)
  | .ldAtHlE => some (.always 8)
  | .ldAtHlH => some (.always 8)
  | .ldAtHlL => some (.always 8)
  | .halt => some (.always 4)
  | .ldAtHlA => some (.always 8)
  | .ldAB => some (.always 4)
  | .ldAC => some (.always 4)
  | .ldAD => some (.always 4)
  | .ldAE => some (.always 4)
  | .ldAH => some (.always 4)
  | .ldAL => some (.always 4)
  | .ldAAtHl => some (.always 8)
  | .ldAA => some (.always 4)
  | .addAB => some (.always 4)
  | .addAC => some (.always 4)
  | .addAD => some (.always 4)
  | .addAE => some (.always 4)
  | .addAH => some (.always 4)
  | .addAL => some (.always 4)
  | .addAAtHl => some (.always 8)
  | .addAA => some (.always 4)
  | .adcAB => some (.always 4)
  | .adcAC => some (.always 4)
  | .adcAD => some (.always 4)
  | .adcAE => some (.always 4)
  | .adcAH => some (.always 4)
  | .adcAL => some (.always 4)
  | .adcAAtHl => some (.always 8)
  | .adcAA => some (.always 4)
  | .subB => some (.always 4)
  | .subC => some (.always 4)
  | .subD => some (.always 4)
  | .subE => some (.always 4)
  | .subH => some (.always 4)
  | .subL => some (.always 4)
  | .subAtHl => some (.always 8)
  | .subA => some (.always 4)
  | .sbcAB => some (.always 4)
  | .sbcAC => some (.always 4)
  | .sbcAD => some (.always 4)
  | .sbcAE => some (.always 4)
  | .sbcAH => some (.always 4)
  | .sbcAL => some (.always 4)
  | .sbcAAtHl => some (.always 8)
  | .sbcAA => some (.always 4)
  | .andB => some (.always 4)
  | .andC => some (.always 4)
  | .andD => some (.always 4)
  | .andE => some (.always 4)
  | .andH => some (.always 4)
  | .andL => some (.always 4)
  | .andAtHl => some (.always 8)
  | .andA => some (.always 4)
  | .xorB => some (.always 4)
  | .xorC => some (.always 4)
  | .xorD => some (.always 4)
  | .xorE => some (.always 4)
  | .xorH => some (.always 4)
  | .xorL => some (.always 4)
  | .xorAtHl => some (.always 8)
  | .xorA => some (.always 4)
  | .orB => some (.always 4)
  | .orC => some (.always 4)
  | .orD => some (.always 4)
  | .orE => some (.always 4)
  | .orH => some (.always 4)
  | .orL => some (.always 4)
  | .orAtHl => some (.always 8)
  | .orA => some (.always 4)
  | .cpB => some (.always 4)
  | .cpC => some (.always 4)
  | .cpD => some (.always 4)
  | .cpE => some (.always 4)
  | .cpH => some (.always 4)
  | .cpL => some (.always 4)
  | .cpAtHl => some (.always 8)
  | .cpA => some (.always 4)
  | .retNz => some (.conditional 20 8)
  | .popBc => some (.always 12)
  | .jpNzA16 _ => some (.conditional 16 12)
  | .jpA16 _ => some (.always 16)
  | .callNzA16 _ => some (.conditional 24 12)
  | .pushBc => some (.always 16)
  | .addAD8 _ => some (.always 8)
  | .rst00 => some (.always 16)
  | .retZ => some (.conditional 20 8)
  | .ret => some (.always 16)
  | .jpZA16 _ => some (.conditional 16 12)
  | .callZA16 _ => some (.conditional 24 12)
  | .callA16 _ => some (.always 24)
  | .adcAD8 _ => some (.always 8)
  | .rst08 => some (.always 16)
  | .retNc => some (.conditional 20 8)
  | .popDe => some (.always 12)
  | .jpNcA16 _ => some (.conditional 16 12)
  | .callNcA16 _ => some (.conditional 24 12)
  | .pushDe => some (.always 16)
  | .subD8 _ => some (.always 8)
  | .rst10 => some (.always 16)
  | .retC => some (.conditional 20 8)
  | .diD9 => some (.always 4)
  | .jpCA16 _ => some (.conditional 16 12)
  | .callCA16 _ => some (.conditional 24 12)
  | .sbcAD8 _ => some (.always 8)
  | .rst18 => some (.always 16)
  | .ldAtIoA8A _ => some (.always 12)
  | .popHl => some (.always 12)
  | .ldAtIoCA => some (.always 8)
  | .pushHl => some (.always 16)
  | .andD8 _ => some (.always 8)
  | .rst20 => some (.always 16)
  | .addSpR8 _ => some (.always 16)
  | .jpHl => some (.always 4)
  | .ldAtA16A _ => some (.always 16)
  | .xorD8 _ => some (.always 8)
  | .rst28 => some (.always 16)
  | .ldAAtIoA8 _ => some (.always 12)
  | .popAf => some (.always 12)
  | .ldAAtIoC => some (.always 8)
  | .diF3 => some (.always 4)
  | .pushAf => some (.always 16)
  | .orD8 _ => some (.always 8)
  | .rst30 => some (.always 16)
  | .ldHlSpR8 _ => some (.always 12)
  | .ldSpHl => some (.always 8)
  | .ldAAtA16 _ => some (.always 16)
  | .ei => some (.always 4)
  | .cpD8 _ => some (.always 8)
  | .rst38 => some (.always 16)
  | .cbPrefix => none
  | .unlistedD3 => none
  | .unlistedDB => none
  | .unlistedDD => none
  | .unlistedE3 => none
  | .unlistedE4 => none
  | .unlistedEB => none
  | .unlistedEC => none
  | .unlistedED => none
  | .unlistedF4 => none
  | .unlistedFC => none
  | .unlistedFD => none

end Sys2Proof.Machine
end

