-- ==== Sys2Proof/Tests/Slice0.lean ====
section
/-! SUPPORT. Tests, by evaluation in the kernel: the well-formedness checks, the decoding of every opcode byte, the worked
examples of 95_test_vectors.md, the step from reset over a fetched word, and for every statement with hypotheses a
state and operands that meet them (`witness_<statement>`). -/

namespace Sys2Proof.Tests

open Sys2Proof Sys2Proof.Machine

-- One theorem after the other: each waits for the kernel, and together they would take a thread each.
set_option Elab.async false

/-! ### Well-formedness: an ill-formed term for each check -/

theorem test_wellFormed_refuses_unlisted : Instr.wellFormed .unlistedD3 = false ∧ Instr.unlisted .unlistedD3 = true := by
  decide

theorem test_wellFormed_refuses_prefix : Instr.wellFormed .cbPrefix = false ∧ Instr.excludedPrefix .cbPrefix = true := by
  decide

theorem test_wellFormed_accepts : Instr.wellFormed .nop = true ∧ Instr.wellFormed (.ldHlD16 0xFFFF) = true := by decide

/-! ### Decoding: the opcode byte in the bits of the spec's encoding, then operand bytes; the rest is given back -/

/-- Every list of bytes decodes to the instruction beside it, with the byte after it left over, and is what that
instruction encodes to. -/
def decodes (l : List (List Byte × Instr)) : Bool :=
  l.all fun p => (match decode (p.1 ++ [0xAA]) with
    | .ok (i, rest) => decide (i = p.2 ∧ rest = [0xAA])
    | .error _ => false) && decide (encode p.2 = p.1)

theorem test_decode_row_0x : decodes [
  ([0b00000000], .nop), ([0b00000001, 0x34, 0x12], .ldBcD16 0x1234), ([0b00000010], .ldAtBcA),
  ([0b00000011], .incBc), ([0b00000100], .incB), ([0b00000101], .decB), ([0b00000110, 0x96], .ldBD8 0x96),
  ([0b00000111], .rlca), ([0b00001000, 0x34, 0x12], .ldAtA16Sp 0x1234), ([0b00001001], .addHlBc),
  ([0b00001010], .ldAAtBc), ([0b00001011], .decBc), ([0b00001100], .incC), ([0b00001101], .decC),
  ([0b00001110, 0x96], .ldCD8 0x96), ([0b00001111], .rrca)] = true := by
  decide +kernel

theorem test_decode_row_1x : decodes [
  ([0b00010000], .stop), ([0b00010001, 0x34, 0x12], .ldDeD16 0x1234), ([0b00010010], .ldAtDeA),
  ([0b00010011], .incDe), ([0b00010100], .incD), ([0b00010101], .decD), ([0b00010110, 0x96], .ldDD8 0x96),
  ([0b00010111], .rla), ([0b00011000, 0x96], .jrR8 0x96), ([0b00011001], .addHlDe), ([0b00011010], .ldAAtDe),
  ([0b00011011], .decDe), ([0b00011100], .incE), ([0b00011101], .decE), ([0b00011110, 0x96], .ldED8 0x96),
  ([0b00011111], .rra)] = true := by
  decide +kernel

theorem test_decode_row_2x : decodes [
  ([0b00100000, 0x96], .jrNzR8 0x96), ([0b00100001, 0x34, 0x12], .ldHlD16 0x1234), ([0b00100010], .ldAtHlIncA),
  ([0b00100011], .incHl), ([0b00100100], .incH), ([0b00100101], .decH), ([0b00100110, 0x96], .ldHD8 0x96),
  ([0b00100111], .daa), ([0b00101000, 0x96], .jrZR8 0x96), ([0b00101001], .addHlHl), ([0b00101010], .ldAAtHlInc),
  ([0b00101011], .decHl), ([0b00101100], .incL), ([0b00101101], .decL), ([0b00101110, 0x96], .ldLD8 0x96),
  ([0b00101111], .cpl)] = true := by
  decide +kernel

theorem test_decode_row_3x : decodes [
  ([0b00110000, 0x96], .jrNcR8 0x96), ([0b00110001, 0x34, 0x12], .ldSpD16 0x1234), ([0b00110010], .ldAtHlDecA),
  ([0b00110011], .incSp), ([0b00110100], .incAtHl), ([0b00110101], .decAtHl), ([0b00110110, 0x96], .ldAtHlD8 0x96),
  ([0b00110111], .scf), ([0b00111000, 0x96], .jrCR8 0x96), ([0b00111001], .addHlSp), ([0b00111010], .ldAAtHlDec),
  ([0b00111011], .decSp), ([0b00111100], .incA), ([0b00111101], .decA), ([0b00111110, 0x96], .ldAD8 0x96),
  ([0b00111111], .ccf)] = true := by
  decide +kernel

theorem test_decode_row_4x : decodes [
  ([0b01000000], .ldBB), ([0b01000001], .ldBC), ([0b01000010], .ldBD), ([0b01000011], .ldBE),
  ([0b01000100], .ldBH), ([0b01000101], .ldBL), ([0b01000110], .ldBAtHl), ([0b01000111], .ldBA),
  ([0b01001000], .ldCB), ([0b01001001], .ldCC), ([0b01001010], .ldCD), ([0b01001011], .ldCE),
  ([0b01001100], .ldCH), ([0b01001101], .ldCL), ([0b01001110], .ldCAtHl), ([0b01001111], .ldCA)] = true := by
  decide +kernel

theorem test_decode_row_5x : decodes [
  ([0b01010000], .ldDB), ([0b01010001], .ldDC), ([0b01010010], .ldDD), ([0b01010011], .ldDE),
  ([0b01010100], .ldDH), ([0b01010101], .ldDL), ([0b01010110], .ldDAtHl), ([0b01010111], .ldDA),
  ([0b01011000], .ldEB), ([0b01011001], .ldEC), ([0b01011010], .ldED), ([0b01011011], .ldEE),
  ([0b01011100], .ldEH), ([0b01011101], .ldEL), ([0b01011110], .ldEAtHl), ([0b01011111], .ldEA)] = true := by
  decide +kernel

theorem test_decode_row_6x : decodes [
  ([0b01100000], .ldHB), ([0b01100001], .ldHC), ([0b01100010], .ldHD), ([0b01100011], .ldHE),
  ([0b01100100], .ldHH), ([0b01100101], .ldHL), ([0b01100110], .ldHAtHl), ([0b01100111], .ldHA),
  ([0b01101000], .ldLB), ([0b01101001], .ldLC), ([0b01101010], .ldLD), ([0b01101011], .ldLE),
  ([0b01101100], .ldLH), ([0b01101101], .ldLL), ([0b01101110], .ldLAtHl), ([0b01101111], .ldLA)] = true := by
  decide +kernel

theorem test_decode_row_7x : decodes [
  ([0b01110000], .ldAtHlB), ([0b01110001], .ldAtHlC), ([0b01110010], .ldAtHlD), ([0b01110011], .ldAtHlE),
  ([0b01110100], .ldAtHlH), ([0b01110101], .ldAtHlL), ([0b01110110], .halt), ([0b01110111], .ldAtHlA),
  ([0b01111000], .ldAB), ([0b01111001], .ldAC), ([0b01111010], .ldAD), ([0b01111011], .ldAE),
  ([0b01111100], .ldAH), ([0b01111101], .ldAL), ([0b01111110], .ldAAtHl), ([0b01111111], .ldAA)] = true := by
  decide +kernel

theorem test_decode_row_8x : decodes [
  ([0b10000000], .addAB), ([0b10000001], .addAC), ([0b10000010], .addAD), ([0b10000011], .addAE),
  ([0b10000100], .addAH), ([0b10000101], .addAL), ([0b10000110], .addAAtHl), ([0b10000111], .addAA),
  ([0b10001000], .adcAB), ([0b10001001], .adcAC), ([0b10001010], .adcAD), ([0b10001011], .adcAE),
  ([0b10001100], .adcAH), ([0b10001101], .adcAL), ([0b10001110], .adcAAtHl), ([0b10001111], .adcAA)] = true := by
  decide +kernel

theorem test_decode_row_9x : decodes [
  ([0b10010000], .subB), ([0b10010001], .subC), ([0b10010010], .subD), ([0b10010011], .subE),
  ([0b10010100], .subH), ([0b10010101], .subL), ([0b10010110], .subAtHl), ([0b10010111], .subA),
  ([0b10011000], .sbcAB), ([0b10011001], .sbcAC), ([0b10011010], .sbcAD), ([0b10011011], .sbcAE),
  ([0b10011100], .sbcAH), ([0b10011101], .sbcAL), ([0b10011110], .sbcAAtHl), ([0b10011111], .sbcAA)] = true := by
  decide +kernel

theorem test_decode_row_Ax : decodes [
  ([0b10100000], .andB), ([0b10100001], .andC), ([0b10100010], .andD), ([0b10100011], .andE),
  ([0b10100100], .andH), ([0b10100101], .andL), ([0b10100110], .andAtHl), ([0b10100111], .andA),
  ([0b10101000], .xorB), ([0b10101001], .xorC), ([0b10101010], .xorD), ([0b10101011], .xorE),
  ([0b10101100], .xorH), ([0b10101101], .xorL), ([0b10101110], .xorAtHl), ([0b10101111], .xorA)] = true := by
  decide +kernel

theorem test_decode_row_Bx : decodes [
  ([0b10110000], .orB), ([0b10110001], .orC), ([0b10110010], .orD), ([0b10110011], .orE), ([0b10110100], .orH),
  ([0b10110101], .orL), ([0b10110110], .orAtHl), ([0b10110111], .orA), ([0b10111000], .cpB), ([0b10111001], .cpC),
  ([0b10111010], .cpD), ([0b10111011], .cpE), ([0b10111100], .cpH), ([0b10111101], .cpL), ([0b10111110], .cpAtHl),
  ([0b10111111], .cpA)] = true := by
  decide +kernel

theorem test_decode_row_Cx : decodes [
  ([0b11000000], .retNz), ([0b11000001], .popBc), ([0b11000010, 0x34, 0x12], .jpNzA16 0x1234),
  ([0b11000011, 0x34, 0x12], .jpA16 0x1234), ([0b11000100, 0x34, 0x12], .callNzA16 0x1234),
  ([0b11000101], .pushBc), ([0b11000110, 0x96], .addAD8 0x96), ([0b11000111], .rst00), ([0b11001000], .retZ),
  ([0b11001001], .ret), ([0b11001010, 0x34, 0x12], .jpZA16 0x1234), ([0b11001011], .cbPrefix),
  ([0b11001100, 0x34, 0x12], .callZA16 0x1234), ([0b11001101, 0x34, 0x12], .callA16 0x1234),
  ([0b11001110, 0x96], .adcAD8 0x96), ([0b11001111], .rst08)] = true := by
  decide +kernel

theorem test_decode_row_Dx : decodes [
  ([0b11010000], .retNc), ([0b11010001], .popDe), ([0b11010010, 0x34, 0x12], .jpNcA16 0x1234),
  ([0b11010011], .unlistedD3), ([0b11010100, 0x34, 0x12], .callNcA16 0x1234), ([0b11010101], .pushDe),
  ([0b11010110, 0x96], .subD8 0x96), ([0b11010111], .rst10), ([0b11011000], .retC), ([0b11011001], .diD9),
  ([0b11011010, 0x34, 0x12], .jpCA16 0x1234), ([0b11011011], .unlistedDB),
  ([0b11011100, 0x34, 0x12], .callCA16 0x1234), ([0b11011101], .unlistedDD), ([0b11011110, 0x96], .sbcAD8 0x96),
  ([0b11011111], .rst18)] = true := by
  decide +kernel

theorem test_decode_row_Ex : decodes [
  ([0b11100000, 0x96], .ldAtIoA8A 0x96), ([0b11100001], .popHl), ([0b11100010], .ldAtIoCA),
  ([0b11100011], .unlistedE3), ([0b11100100], .unlistedE4), ([0b11100101], .pushHl),
  ([0b11100110, 0x96], .andD8 0x96), ([0b11100111], .rst20), ([0b11101000, 0x96], .addSpR8 0x96),
  ([0b11101001], .jpHl), ([0b11101010, 0x34, 0x12], .ldAtA16A 0x1234), ([0b11101011], .unlistedEB),
  ([0b11101100], .unlistedEC), ([0b11101101], .unlistedED), ([0b11101110, 0x96], .xorD8 0x96),
  ([0b11101111], .rst28)] = true := by
  decide +kernel

theorem test_decode_row_Fx : decodes [
  ([0b11110000, 0x96], .ldAAtIoA8 0x96), ([0b11110001], .popAf), ([0b11110010], .ldAAtIoC), ([0b11110011], .diF3),
  ([0b11110100], .unlistedF4), ([0b11110101], .pushAf), ([0b11110110, 0x96], .orD8 0x96), ([0b11110111], .rst30),
  ([0b11111000, 0x96], .ldHlSpR8 0x96), ([0b11111001], .ldSpHl), ([0b11111010, 0x34, 0x12], .ldAAtA16 0x1234),
  ([0b11111011], .ei), ([0b11111100], .unlistedFC), ([0b11111101], .unlistedFD), ([0b11111110, 0x96], .cpD8 0x96),
  ([0b11111111], .rst38)] = true := by
  decide +kernel

theorem test_decode_too_short :
    (∃ e, decode [] = .error e) ∧ (∃ e, decode [0x06] = .error e) ∧ ∃ e, decode [0xC3, 0x00] = .error e :=
  ⟨⟨_, rfl⟩, ⟨_, rfl⟩, ⟨_, rfl⟩⟩

theorem test_decodeTableWord : decodeTableWord 8 0x76 = some .halt ∧ decodeTableWord 16 0x8020 = some (.jrNzR8 0x80) ∧
    decodeTableWord 24 0x1234C3 = some (.jpA16 0x1234) ∧ decodeTableWord 8 0xC3 = some (.jpA16 0) ∧
    decodeTableWord 8 0xFD = some .unlistedFD := by
  decide +kernel

theorem test_withFetchWord : (match step (State.reset.withFetchWord 16 0x5A06) with
    | .next t => decide (t.b = 0x5A ∧ t.pc = 0x0102)
    | .fault _ => false
    | .refused _ => false) = true := by
  decide +kernel

/-! ### The worked examples of 95_test_vectors.md

Each entry is a row V<n> there: the bytes at the starting pc, what the start differs from `base` in, what the state
after one step differs from the start in, and every bus access of the step. -/

/-- The start that section 1 of 95_test_vectors.md sets for what a row does not give. -/
def base : State :=
  { State.reset with a := 0, f := 0, b := 0, c := 0, d := 0, e := 0, h := 0, l := 0, sp := 0xFFFE, pc := 0x0200, mem := [] }

structure Vec where
  bytes : List Byte
  start : State → State
  final : State → State
  bus : List BusAccess

/-- The start with the bytes in place and an empty record. -/
def Vec.before (v : Vec) : State :=
  let s := v.start base
  { s.placeBytes s.pc v.bytes with busLog := some [] }

/-- One step gives the state of the row, in every component. -/
def Vec.holds (v : Vec) : Bool :=
  match step v.before with
  | .next t => decide (t = { v.final v.before with busLog := some v.bus })
  | .fault _ => false
  | .refused _ => false


/-- IF and IE right after reset under the instance `gameBoy`, from the last sentence of R507. -/
theorem test_reset_interrupt_registers :
    let s := { State.reset with config := { Config.standard with irq := .gameBoy } }
    s.peek 0xFF0F = 0xE1 ∧ s.peek 0xFFFF = 0x00 ∧ s.irqRequested = false := by
  decide +kernel

/-- On the platform's own bus a store is the platform's `write`, and a load its `read` with the state that it leaves. -/
theorem test_platform_bus :
    let s := { base with h := 0xC0, config := { Config.standard with bus := .platform } }
    (match exec .ldAtHlA s with
      | .next t => t.bus = Config.busWrite s.bus 0xC000 s.a ∧ t.mem = s.mem
      | .fault _ => False
      | .refused _ => False) ∧
    (match exec .ldAAtHl s with
      | .next t => (t.a, t.bus) = Config.busRead s.bus 0xC000 ∧ t.mem = s.mem
      | .fault _ => False
      | .refused _ => False) :=
  ⟨⟨rfl, rfl⟩, rfl, rfl⟩

theorem test_vectors_V1_to_V17 : [
  ⟨[0x06, 0x5A], fun s => { s with f := 0xF0 }, fun s => { s with f := 0xF0, b := 0x5A, pc := 0x0202 },
    [.read 0x0200 0x06, .read 0x0201 0x5A]⟩,
  ⟨[0x3E, 0xFF], fun s => { s with pc := 0xFFFF }, fun s => { s with a := 0xFF, pc := 0x0001 },
    [.read 0xFFFF 0x3E, .read 0x0000 0xFF]⟩,
  ⟨[0x36, 0x7F], fun s => { s with h := 0xC0, l := 0x00 }, fun s => { s with pc := 0x0202 } |>.poke 0xC000 0x7F,
    [.read 0x0200 0x36, .read 0x0201 0x7F, .write 0xC000 0x7F]⟩,
  ⟨[0x02], fun s => { s with a := 0x42, b := 0xC0, c := 0x10 }, fun s => { s with pc := 0x0201 } |>.poke 0xC010 0x42,
    [.read 0x0200 0x02, .write 0xC010 0x42]⟩,
  ⟨[0x0A], fun s => { s with b := 0xC0, c := 0x10 } |>.poke 0xC010 0x99, fun s => { s with a := 0x99, pc := 0x0201 },
    [.read 0x0200 0x0A, .read 0xC010 0x99]⟩,
  ⟨[0x12], fun s => { s with a := 0x42, d := 0xC0, e := 0x20 }, fun s => { s with pc := 0x0201 } |>.poke 0xC020 0x42,
    [.read 0x0200 0x12, .write 0xC020 0x42]⟩,
  ⟨[0x1A], fun s => { s with d := 0xC0, e := 0x20 } |>.poke 0xC020 0x77, fun s => { s with a := 0x77, pc := 0x0201 },
    [.read 0x0200 0x1A, .read 0xC020 0x77]⟩,
  ⟨[0x22], fun s => { s with a := 0x11, h := 0xFF, l := 0xFF },
    fun s => { s with h := 0x00, l := 0x00, pc := 0x0201 } |>.poke 0xFFFF 0x11,
    [.read 0x0200 0x22, .write 0xFFFF 0x11]⟩,
  ⟨[0x2A], fun s => { s with h := 0xC0, l := 0xFF } |>.poke 0xC0FF 0x5C,
    fun s => { s with a := 0x5C, h := 0xC1, l := 0x00, pc := 0x0201 }, [.read 0x0200 0x2A, .read 0xC0FF 0x5C]⟩,
  ⟨[0x32], fun s => { s with a := 0x11, h := 0x00, l := 0x00 },
    fun s => { s with h := 0xFF, l := 0xFF, pc := 0x0201 } |>.poke 0x0000 0x11,
    [.read 0x0200 0x32, .write 0x0000 0x11]⟩,
  ⟨[0x3A], fun s => { s with h := 0xC1, l := 0x00 } |>.poke 0xC100 0x6D,
    fun s => { s with a := 0x6D, h := 0xC0, l := 0xFF, pc := 0x0201 }, [.read 0x0200 0x3A, .read 0xC100 0x6D]⟩,
  ⟨[0xE0, 0x80], fun s => { s with a := 0xAB }, fun s => { s with pc := 0x0202 } |>.poke 0xFF80 0xAB,
    [.read 0x0200 0xE0, .read 0x0201 0x80, .write 0xFF80 0xAB]⟩,
  ⟨[0xF0, 0xFF], fun s => s |>.poke 0xFFFF 0x1F, fun s => { s with a := 0x1F, pc := 0x0202 },
    [.read 0x0200 0xF0, .read 0x0201 0xFF, .read 0xFFFF 0x1F]⟩,
  ⟨[0xE2], fun s => { s with a := 0xCD, c := 0x44 }, fun s => { s with pc := 0x0201 } |>.poke 0xFF44 0xCD,
    [.read 0x0200 0xE2, .write 0xFF44 0xCD]⟩,
  ⟨[0xF2], fun s => { s with c := 0x00 } |>.poke 0xFF00 0x3F, fun s => { s with a := 0x3F, pc := 0x0201 },
    [.read 0x0200 0xF2, .read 0xFF00 0x3F]⟩,
  ⟨[0xEA, 0x34, 0x12], fun s => { s with a := 0x5E }, fun s => { s with pc := 0x0203 } |>.poke 0x1234 0x5E,
    [.read 0x0200 0xEA, .read 0x0201 0x34, .read 0x0202 0x12, .write 0x1234 0x5E]⟩,
  ⟨[0xFA, 0x00, 0xC0], fun s => s |>.poke 0xC000 0x21, fun s => { s with a := 0x21, pc := 0x0203 },
    [.read 0x0200 0xFA, .read 0x0201 0x00, .read 0x0202 0xC0, .read 0xC000 0x21]⟩].all Vec.holds = true := by
  decide +kernel

theorem test_vectors_V18_to_V27 : [
  ⟨[0x40], fun s => { s with f := 0xF0, b := 0x12 }, fun s => { s with f := 0xF0, pc := 0x0201 }, [.read 0x0200 0x40]⟩,
  ⟨[0x41], fun s => { s with b := 0x12, c := 0x34 }, fun s => { s with b := 0x34, pc := 0x0201 }, [.read 0x0200 0x41]⟩,
  ⟨[0x7F], fun s => { s with a := 0x99 }, fun s => { s with pc := 0x0201 }, [.read 0x0200 0x7F]⟩,
  ⟨[0x66], fun s => { s with h := 0xC0, l := 0x00 } |>.poke 0xC000 0xD1, fun s => { s with h := 0xD1, pc := 0x0201 },
    [.read 0x0200 0x66, .read 0xC000 0xD1]⟩,
  ⟨[0x6E], fun s => { s with h := 0xC0, l := 0x00 } |>.poke 0xC000 0x08, fun s => { s with l := 0x08, pc := 0x0201 },
    [.read 0x0200 0x6E, .read 0xC000 0x08]⟩,
  ⟨[0x74], fun s => { s with h := 0xC0, l := 0x80 }, fun s => { s with pc := 0x0201 } |>.poke 0xC080 0xC0,
    [.read 0x0200 0x74, .write 0xC080 0xC0]⟩,
  ⟨[0x75], fun s => { s with h := 0xC0, l := 0x80 }, fun s => { s with pc := 0x0201 } |>.poke 0xC080 0x80,
    [.read 0x0200 0x75, .write 0xC080 0x80]⟩,
  ⟨[0x77], fun s => { s with a := 0xEE, h := 0xFF, l := 0xFF }, fun s => { s with pc := 0x0201 } |>.poke 0xFFFF 0xEE,
    [.read 0x0200 0x77, .write 0xFFFF 0xEE]⟩,
  ⟨[0x7E], fun s => { s with h := 0x02, l := 0x00 }, fun s => { s with a := 0x7E, pc := 0x0201 },
    [.read 0x0200 0x7E, .read 0x0200 0x7E]⟩,
  ⟨[0x5F], fun s => { s with a := 0x3C, f := 0x50 }, fun s => { s with f := 0x50, e := 0x3C, pc := 0x0201 },
    [.read 0x0200 0x5F]⟩].all Vec.holds = true := by
  decide +kernel

theorem test_vectors_V28_to_V47 : [
  ⟨[0x01, 0x34, 0x12], id, fun s => { s with b := 0x12, c := 0x34, pc := 0x0203 },
    [.read 0x0200 0x01, .read 0x0201 0x34, .read 0x0202 0x12]⟩,
  ⟨[0x11, 0xFF, 0x00], id, fun s => { s with e := 0xFF, pc := 0x0203 },
    [.read 0x0200 0x11, .read 0x0201 0xFF, .read 0x0202 0x00]⟩,
  ⟨[0x21, 0x00, 0xC0], id, fun s => { s with h := 0xC0, pc := 0x0203 },
    [.read 0x0200 0x21, .read 0x0201 0x00, .read 0x0202 0xC0]⟩,
  ⟨[0x31, 0x00, 0xD0], id, fun s => { s with sp := 0xD000, pc := 0x0203 },
    [.read 0x0200 0x31, .read 0x0201 0x00, .read 0x0202 0xD0]⟩,
  ⟨[0x08, 0x00, 0xC1], fun s => { s with sp := 0xFFF8 },
    fun s => { s with pc := 0x0203 } |>.poke 0xC100 0xF8 |>.poke 0xC101 0xFF,
    [.read 0x0200 0x08, .read 0x0201 0x00, .read 0x0202 0xC1, .write 0xC100 0xF8, .write 0xC101 0xFF]⟩,
  ⟨[0x08, 0xFF, 0xFF], fun s => { s with sp := 0x1234 },
    fun s => { s with pc := 0x0203 } |>.poke 0xFFFF 0x34 |>.poke 0x0000 0x12,
    [.read 0x0200 0x08, .read 0x0201 0xFF, .read 0x0202 0xFF, .write 0xFFFF 0x34, .write 0x0000 0x12]⟩,
  ⟨[0xF9], fun s => { s with h := 0xD1, l := 0x23 }, fun s => { s with sp := 0xD123, pc := 0x0201 },
    [.read 0x0200 0xF9]⟩,
  ⟨[0xC5], fun s => { s with b := 0x12, c := 0x34 },
    fun s => { s with sp := 0xFFFC, pc := 0x0201 } |>.poke 0xFFFD 0x12 |>.poke 0xFFFC 0x34,
    [.read 0x0200 0xC5, .write 0xFFFD 0x12, .write 0xFFFC 0x34]⟩,
  ⟨[0xD5], fun s => { s with d := 0xAB, e := 0xCD, sp := 0x0001 },
    fun s => { s with sp := 0xFFFF, pc := 0x0201 } |>.poke 0x0000 0xAB |>.poke 0xFFFF 0xCD,
    [.read 0x0200 0xD5, .write 0x0000 0xAB, .write 0xFFFF 0xCD]⟩,
  ⟨[0xE5], fun s => { s with h := 0x02, l := 0x00, sp := 0x0202 },
    fun s => { s with sp := 0x0200, pc := 0x0201 } |>.poke 0x0201 0x02 |>.poke 0x0200 0x00,
    [.read 0x0200 0xE5, .write 0x0201 0x02, .write 0x0200 0x00]⟩,
  ⟨[0xF5], fun s => { s with a := 0x12, f := 0xB0 },
    fun s => { s with f := 0xB0, sp := 0xFFFC, pc := 0x0201 } |>.poke 0xFFFD 0x12 |>.poke 0xFFFC 0xB0,
    [.read 0x0200 0xF5, .write 0xFFFD 0x12, .write 0xFFFC 0xB0]⟩,
  ⟨[0xC1], fun s => { s with sp := 0xD000 } |>.poke 0xD000 0x34 |>.poke 0xD001 0x12,
    fun s => { s with b := 0x12, c := 0x34, sp := 0xD002, pc := 0x0201 },
    [.read 0x0200 0xC1, .read 0xD000 0x34, .read 0xD001 0x12]⟩,
  ⟨[0xD1], fun s => { s with sp := 0xFFFF } |>.poke 0x0000 0xAB |>.poke 0xFFFF 0xCD,
    fun s => { s with d := 0xAB, e := 0xCD, sp := 0x0001, pc := 0x0201 },
    [.read 0x0200 0xD1, .read 0xFFFF 0xCD, .read 0x0000 0xAB]⟩,
  ⟨[0xE1], fun s => { s with sp := 0xD000 } |>.poke 0xD000 0xEF |>.poke 0xD001 0xBE,
    fun s => { s with h := 0xBE, l := 0xEF, sp := 0xD002, pc := 0x0201 },
    [.read 0x0200 0xE1, .read 0xD000 0xEF, .read 0xD001 0xBE]⟩,
  ⟨[0xF1], fun s => { s with sp := 0xD000 } |>.poke 0xD000 0xFF |>.poke 0xD001 0x12,
    fun s => { s with a := 0x12, f := 0xF0, sp := 0xD002, pc := 0x0201 },
    [.read 0x0200 0xF1, .read 0xD000 0xFF, .read 0xD001 0x12]⟩,
  ⟨[0xF1], fun s => { s with f := 0xF0, sp := 0xD000 } |>.poke 0xD000 0x0F |>.poke 0xD001 0x00,
    fun s => { s with a := 0x00, f := 0x00, sp := 0xD002, pc := 0x0201 },
    [.read 0x0200 0xF1, .read 0xD000 0x0F, .read 0xD001 0x00]⟩,
  ⟨[0xF8, 0x08], fun s => { s with f := 0xC0, sp := 0xFFF8 }, fun s => { s with f := 0x30, pc := 0x0202 },
    [.read 0x0200 0xF8, .read 0x0201 0x08]⟩,
  ⟨[0xF8, 0xFF], fun s => { s with sp := 0x0000 }, fun s => { s with f := 0x00, h := 0xFF, l := 0xFF, pc := 0x0202 },
    [.read 0x0200 0xF8, .read 0x0201 0xFF]⟩,
  ⟨[0xF8, 0x01], fun s => { s with sp := 0x000F }, fun s => { s with f := 0x20, l := 0x10, pc := 0x0202 },
    [.read 0x0200 0xF8, .read 0x0201 0x01]⟩,
  ⟨[0xF8, 0x80], fun s => { s with sp := 0x0100 }, fun s => { s with f := 0x00, l := 0x80, pc := 0x0202 },
    [.read 0x0200 0xF8, .read 0x0201 0x80]⟩].all Vec.holds = true := by
  decide +kernel

theorem test_vectors_V48_to_V64 : [
  ⟨[0x80], fun s => { s with a := 0x3A, b := 0xC6 }, fun s => { s with a := 0x00, f := 0xB0, pc := 0x0201 },
    [.read 0x0200 0x80]⟩,
  ⟨[0x80], fun s => { s with a := 0x0F, b := 0x01 }, fun s => { s with a := 0x10, f := 0x20, pc := 0x0201 },
    [.read 0x0200 0x80]⟩,
  ⟨[0x87], fun s => { s with a := 0x80 }, fun s => { s with a := 0x00, f := 0x90, pc := 0x0201 }, [.read 0x0200 0x87]⟩,
  ⟨[0x86], fun s => { s with a := 0x01, h := 0xC0, l := 0x00 } |>.poke 0xC000 0x7F,
    fun s => { s with a := 0x80, f := 0x20, pc := 0x0201 }, [.read 0x0200 0x86, .read 0xC000 0x7F]⟩,
  ⟨[0xC6, 0xFF], fun s => { s with a := 0x01 }, fun s => { s with a := 0x00, f := 0xB0, pc := 0x0202 },
    [.read 0x0200 0xC6, .read 0x0201 0xFF]⟩,
  ⟨[0x88], fun s => { s with a := 0xFF, f := 0x10, b := 0x00 },
    fun s => { s with a := 0x00, f := 0xB0, pc := 0x0201 }, [.read 0x0200 0x88]⟩,
  ⟨[0x88], fun s => { s with a := 0x00, f := 0x10, b := 0xFF }, fun s => { s with f := 0xB0, pc := 0x0201 },
    [.read 0x0200 0x88]⟩,
  ⟨[0xCE, 0x01], fun s => { s with a := 0x0E, f := 0x10 }, fun s => { s with a := 0x10, f := 0x20, pc := 0x0202 },
    [.read 0x0200 0xCE, .read 0x0201 0x01]⟩,
  ⟨[0x8F], fun s => { s with a := 0x80, f := 0x10 }, fun s => { s with a := 0x01, f := 0x10, pc := 0x0201 },
    [.read 0x0200 0x8F]⟩,
  ⟨[0x89], fun s => { s with a := 0x10, f := 0xE0, c := 0x20 },
    fun s => { s with a := 0x30, f := 0x00, pc := 0x0201 }, [.read 0x0200 0x89]⟩,
  ⟨[0x90], fun s => { s with a := 0x3E, b := 0x3E }, fun s => { s with a := 0x00, f := 0xC0, pc := 0x0201 },
    [.read 0x0200 0x90]⟩,
  ⟨[0x90], fun s => { s with a := 0x00, b := 0x01 }, fun s => { s with a := 0xFF, f := 0x70, pc := 0x0201 },
    [.read 0x0200 0x90]⟩,
  ⟨[0xD6, 0x01], fun s => { s with a := 0x10 }, fun s => { s with a := 0x0F, f := 0x60, pc := 0x0202 },
    [.read 0x0200 0xD6, .read 0x0201 0x01]⟩,
  ⟨[0x97], fun s => { s with a := 0x5A, f := 0x10 }, fun s => { s with a := 0x00, f := 0xC0, pc := 0x0201 },
    [.read 0x0200 0x97]⟩,
  ⟨[0x96], fun s => { s with a := 0x80, h := 0xC0, l := 0x00 } |>.poke 0xC000 0x01,
    fun s => { s with a := 0x7F, f := 0x60, pc := 0x0201 }, [.read 0x0200 0x96, .read 0xC000 0x01]⟩,
  ⟨[0x98], fun s => { s with a := 0x00, f := 0x10, b := 0x00 },
    fun s => { s with a := 0xFF, f := 0x70, pc := 0x0201 }, [.read 0x0200 0x98]⟩,
  ⟨[0x98], fun s => { s with a := 0x10, f := 0x10, b := 0x0F },
    fun s => { s with a := 0x00, f := 0xE0, pc := 0x0201 }, [.read 0x0200 0x98]⟩].all Vec.holds = true := by
  decide +kernel

theorem test_vectors_V65_to_V80 : [
  ⟨[0x9F], fun s => { s with a := 0x77, f := 0x10 }, fun s => { s with a := 0xFF, f := 0x70, pc := 0x0201 },
    [.read 0x0200 0x9F]⟩,
  ⟨[0x9F], fun s => { s with a := 0x77, f := 0x00 }, fun s => { s with a := 0x00, f := 0xC0, pc := 0x0201 },
    [.read 0x0200 0x9F]⟩,
  ⟨[0xDE, 0xFF], fun s => { s with a := 0x00, f := 0x10 }, fun s => { s with f := 0xF0, pc := 0x0202 },
    [.read 0x0200 0xDE, .read 0x0201 0xFF]⟩,
  ⟨[0xB8], fun s => { s with a := 0x3C, b := 0x40 }, fun s => { s with a := 0x3C, f := 0x50, pc := 0x0201 },
    [.read 0x0200 0xB8]⟩,
  ⟨[0xB8], fun s => { s with a := 0x3C, b := 0x2F }, fun s => { s with a := 0x3C, f := 0x60, pc := 0x0201 },
    [.read 0x0200 0xB8]⟩,
  ⟨[0xFE, 0x3C], fun s => { s with a := 0x3C }, fun s => { s with a := 0x3C, f := 0xC0, pc := 0x0202 },
    [.read 0x0200 0xFE, .read 0x0201 0x3C]⟩,
  ⟨[0xBF], fun s => { s with a := 0xC3, f := 0x30 }, fun s => { s with a := 0xC3, f := 0xC0, pc := 0x0201 },
    [.read 0x0200 0xBF]⟩,
  ⟨[0xBE], fun s => { s with a := 0x00, h := 0xC0, l := 0x00 } |>.poke 0xC000 0x01,
    fun s => { s with a := 0x00, f := 0x70, pc := 0x0201 }, [.read 0x0200 0xBE, .read 0xC000 0x01]⟩,
  ⟨[0x04], fun s => { s with f := 0x10, b := 0xFF }, fun s => { s with f := 0xB0, b := 0x00, pc := 0x0201 },
    [.read 0x0200 0x04]⟩,
  ⟨[0x3C], fun s => { s with a := 0x0F }, fun s => { s with a := 0x10, f := 0x20, pc := 0x0201 }, [.read 0x0200 0x3C]⟩,
  ⟨[0x3C], fun s => { s with a := 0x7F, f := 0xC0 }, fun s => { s with a := 0x80, f := 0x20, pc := 0x0201 },
    [.read 0x0200 0x3C]⟩,
  ⟨[0x34], fun s => { s with h := 0xC0, l := 0x00 } |>.poke 0xC000 0xFF,
    fun s => { s with f := 0xA0, pc := 0x0201 } |>.poke 0xC000 0x00,
    [.read 0x0200 0x34, .read 0xC000 0xFF, .write 0xC000 0x00]⟩,
  ⟨[0x05], fun s => { s with f := 0x10, b := 0x01 }, fun s => { s with f := 0xD0, b := 0x00, pc := 0x0201 },
    [.read 0x0200 0x05]⟩,
  ⟨[0x3D], fun s => { s with a := 0x00 }, fun s => { s with a := 0xFF, f := 0x60, pc := 0x0201 }, [.read 0x0200 0x3D]⟩,
  ⟨[0x0D], fun s => { s with c := 0x10 }, fun s => { s with f := 0x60, c := 0x0F, pc := 0x0201 }, [.read 0x0200 0x0D]⟩,
  ⟨[0x35], fun s => { s with h := 0xC0, l := 0x00 } |>.poke 0xC000 0x00,
    fun s => { s with f := 0x60, pc := 0x0201 } |>.poke 0xC000 0xFF,
    [.read 0x0200 0x35, .read 0xC000 0x00, .write 0xC000 0xFF]⟩].all Vec.holds = true := by
  decide +kernel

theorem test_vectors_V81_to_V97 : [
  ⟨[0xA0], fun s => { s with a := 0x5A, f := 0xD0, b := 0x3F },
    fun s => { s with a := 0x1A, f := 0x20, pc := 0x0201 }, [.read 0x0200 0xA0]⟩,
  ⟨[0xA0], fun s => { s with a := 0xF0, b := 0x0F }, fun s => { s with a := 0x00, f := 0xA0, pc := 0x0201 },
    [.read 0x0200 0xA0]⟩,
  ⟨[0xA7], fun s => { s with a := 0x5A, f := 0xD0 }, fun s => { s with a := 0x5A, f := 0x20, pc := 0x0201 },
    [.read 0x0200 0xA7]⟩,
  ⟨[0xA7], fun s => { s with a := 0x00, f := 0x00 }, fun s => { s with a := 0x00, f := 0xA0, pc := 0x0201 },
    [.read 0x0200 0xA7]⟩,
  ⟨[0xA7], fun s => { s with a := 0x80, f := 0x20 }, fun s => { s with a := 0x80, f := 0x20, pc := 0x0201 },
    [.read 0x0200 0xA7]⟩,
  ⟨[0xA6], fun s => { s with a := 0xFF, h := 0xC0, l := 0x00 } |>.poke 0xC000 0x81,
    fun s => { s with a := 0x81, f := 0x20, pc := 0x0201 }, [.read 0x0200 0xA6, .read 0xC000 0x81]⟩,
  ⟨[0xE6, 0x0F], fun s => { s with a := 0xA5 }, fun s => { s with a := 0x05, f := 0x20, pc := 0x0202 },
    [.read 0x0200 0xE6, .read 0x0201 0x0F]⟩,
  ⟨[0xA8], fun s => { s with a := 0xFF, f := 0xF0, b := 0x0F },
    fun s => { s with a := 0xF0, f := 0x00, pc := 0x0201 }, [.read 0x0200 0xA8]⟩,
  ⟨[0xAF], fun s => { s with a := 0x5A, f := 0x70 }, fun s => { s with a := 0x00, f := 0x80, pc := 0x0201 },
    [.read 0x0200 0xAF]⟩,
  ⟨[0xAE], fun s => { s with a := 0x55, h := 0xC0, l := 0x00 } |>.poke 0xC000 0xAA,
    fun s => { s with a := 0xFF, f := 0x00, pc := 0x0201 }, [.read 0x0200 0xAE, .read 0xC000 0xAA]⟩,
  ⟨[0xEE, 0xFF], fun s => { s with a := 0xFF }, fun s => { s with a := 0x00, f := 0x80, pc := 0x0202 },
    [.read 0x0200 0xEE, .read 0x0201 0xFF]⟩,
  ⟨[0xB0], fun s => { s with a := 0x50, f := 0xF0, b := 0x0A },
    fun s => { s with a := 0x5A, f := 0x00, pc := 0x0201 }, [.read 0x0200 0xB0]⟩,
  ⟨[0xB7], fun s => { s with a := 0x5A, f := 0xF0 }, fun s => { s with a := 0x5A, f := 0x00, pc := 0x0201 },
    [.read 0x0200 0xB7]⟩,
  ⟨[0xB7], fun s => { s with a := 0x00, f := 0x70 }, fun s => { s with a := 0x00, f := 0x80, pc := 0x0201 },
    [.read 0x0200 0xB7]⟩,
  ⟨[0xB7], fun s => { s with a := 0x01, f := 0x00 }, fun s => { s with a := 0x01, f := 0x00, pc := 0x0201 },
    [.read 0x0200 0xB7]⟩,
  ⟨[0xB6], fun s => { s with a := 0x00, h := 0xC0, l := 0x00 } |>.poke 0xC000 0x00,
    fun s => { s with f := 0x80, pc := 0x0201 }, [.read 0x0200 0xB6, .read 0xC000 0x00]⟩,
  ⟨[0xF6, 0x80], fun s => { s with a := 0x01 }, fun s => { s with a := 0x81, f := 0x00, pc := 0x0202 },
    [.read 0x0200 0xF6, .read 0x0201 0x80]⟩].all Vec.holds = true := by
  decide +kernel

theorem test_vectors_V98_to_V116 : [
  ⟨[0x03], fun s => { s with f := 0xF0, b := 0xFF, c := 0xFF },
    fun s => { s with f := 0xF0, b := 0x00, c := 0x00, pc := 0x0201 }, [.read 0x0200 0x03]⟩,
  ⟨[0x13], fun s => { s with d := 0x00, e := 0xFF },
    fun s => { s with f := 0x00, d := 0x01, e := 0x00, pc := 0x0201 }, [.read 0x0200 0x13]⟩,
  ⟨[0x23], fun s => { s with f := 0x00, h := 0x0F, l := 0xFF },
    fun s => { s with f := 0x00, h := 0x10, l := 0x00, pc := 0x0201 }, [.read 0x0200 0x23]⟩,
  ⟨[0x33], fun s => { s with sp := 0xFFFF }, fun s => { s with f := 0x00, sp := 0x0000, pc := 0x0201 },
    [.read 0x0200 0x33]⟩,
  ⟨[0x0B], fun s => { s with f := 0x00, b := 0x00, c := 0x00 },
    fun s => { s with f := 0x00, b := 0xFF, c := 0xFF, pc := 0x0201 }, [.read 0x0200 0x0B]⟩,
  ⟨[0x1B], fun s => { s with d := 0x01, e := 0x00 },
    fun s => { s with f := 0x00, d := 0x00, e := 0xFF, pc := 0x0201 }, [.read 0x0200 0x1B]⟩,
  ⟨[0x2B], fun s => { s with f := 0x00, h := 0x00, l := 0x01 },
    fun s => { s with f := 0x00, l := 0x00, pc := 0x0201 }, [.read 0x0200 0x2B]⟩,
  ⟨[0x3B], fun s => { s with sp := 0x0000 }, fun s => { s with f := 0x00, sp := 0xFFFF, pc := 0x0201 },
    [.read 0x0200 0x3B]⟩,
  ⟨[0x09], fun s => { s with f := 0x80, b := 0x06, c := 0x05, h := 0x8A, l := 0x23 },
    fun s => { s with f := 0xA0, h := 0x90, l := 0x28, pc := 0x0201 }, [.read 0x0200 0x09]⟩,
  ⟨[0x19], fun s => { s with d := 0x00, e := 0x01, h := 0xFF, l := 0xFF },
    fun s => { s with f := 0x30, h := 0x00, l := 0x00, pc := 0x0201 }, [.read 0x0200 0x19]⟩,
  ⟨[0x29], fun s => { s with f := 0xC0, h := 0x8A, l := 0x23 },
    fun s => { s with f := 0xB0, h := 0x14, l := 0x46, pc := 0x0201 }, [.read 0x0200 0x29]⟩,
  ⟨[0x39], fun s => { s with h := 0x00, l := 0x01, sp := 0x0FFF },
    fun s => { s with f := 0x20, h := 0x10, l := 0x00, pc := 0x0201 }, [.read 0x0200 0x39]⟩,
  ⟨[0x09], fun s => { s with b := 0x10, c := 0x00, h := 0xF0, l := 0x00 },
    fun s => { s with f := 0x10, h := 0x00, pc := 0x0201 }, [.read 0x0200 0x09]⟩,
  ⟨[0xE8, 0x02], fun s => { s with f := 0xF0, sp := 0xFFF8 },
    fun s => { s with f := 0x00, sp := 0xFFFA, pc := 0x0202 }, [.read 0x0200 0xE8, .read 0x0201 0x02]⟩,
  ⟨[0xE8, 0xFF], fun s => { s with sp := 0x0001 }, fun s => { s with f := 0x30, sp := 0x0000, pc := 0x0202 },
    [.read 0x0200 0xE8, .read 0x0201 0xFF]⟩,
  ⟨[0xE8, 0xFF], fun s => { s with sp := 0x0000 }, fun s => { s with f := 0x00, sp := 0xFFFF, pc := 0x0202 },
    [.read 0x0200 0xE8, .read 0x0201 0xFF]⟩,
  ⟨[0xE8, 0x01], fun s => { s with sp := 0x00FF }, fun s => { s with f := 0x30, sp := 0x0100, pc := 0x0202 },
    [.read 0x0200 0xE8, .read 0x0201 0x01]⟩,
  ⟨[0xE8, 0x80], fun s => { s with sp := 0x0080 }, fun s => { s with f := 0x10, sp := 0x0000, pc := 0x0202 },
    [.read 0x0200 0xE8, .read 0x0201 0x80]⟩,
  ⟨[0xE8, 0x7F], fun s => { s with sp := 0xFFFF }, fun s => { s with f := 0x30, sp := 0x007E, pc := 0x0202 },
    [.read 0x0200 0xE8, .read 0x0201 0x7F]⟩].all Vec.holds = true := by
  decide +kernel

theorem test_vectors_V117_to_V127 : [
  ⟨[0x07], fun s => { s with a := 0x85, f := 0xE0 }, fun s => { s with a := 0x0B, f := 0x10, pc := 0x0201 },
    [.read 0x0200 0x07]⟩,
  ⟨[0x07], fun s => { s with a := 0x00, f := 0xF0 }, fun s => { s with f := 0x00, pc := 0x0201 }, [.read 0x0200 0x07]⟩,
  ⟨[0x0F], fun s => { s with a := 0x3B }, fun s => { s with a := 0x9D, f := 0x10, pc := 0x0201 }, [.read 0x0200 0x0F]⟩,
  ⟨[0x0F], fun s => { s with a := 0x01 }, fun s => { s with a := 0x80, f := 0x10, pc := 0x0201 }, [.read 0x0200 0x0F]⟩,
  ⟨[0x17], fun s => { s with a := 0x95, f := 0x10 }, fun s => { s with a := 0x2B, f := 0x10, pc := 0x0201 },
    [.read 0x0200 0x17]⟩,
  ⟨[0x17], fun s => { s with a := 0x80, f := 0x00 }, fun s => { s with a := 0x00, f := 0x10, pc := 0x0201 },
    [.read 0x0200 0x17]⟩,
  ⟨[0x1F], fun s => { s with a := 0x81, f := 0x00 }, fun s => { s with a := 0x40, f := 0x10, pc := 0x0201 },
    [.read 0x0200 0x1F]⟩,
  ⟨[0x1F], fun s => { s with a := 0x00, f := 0x10 }, fun s => { s with a := 0x80, f := 0x00, pc := 0x0201 },
    [.read 0x0200 0x1F]⟩,
  ⟨[0x27], fun s => { s with a := 0x7D, f := 0x00 }, fun s => { s with a := 0x83, f := 0x00, pc := 0x0201 },
    [.read 0x0200 0x27]⟩,
  ⟨[0x27], fun s => { s with a := 0x9A, f := 0x00 }, fun s => { s with a := 0x00, f := 0x90, pc := 0x0201 },
    [.read 0x0200 0x27]⟩,
  ⟨[0x27], fun s => { s with a := 0x12, f := 0x20 }, fun s => { s with a := 0x18, f := 0x00, pc := 0x0201 },
    [.read 0x0200 0x27]⟩].all Vec.holds = true := by
  decide +kernel

theorem test_vectors_V128_to_V137 : [
  ⟨[0x27], fun s => { s with a := 0x20, f := 0x10 }, fun s => { s with a := 0x80, f := 0x10, pc := 0x0201 },
    [.read 0x0200 0x27]⟩,
  ⟨[0x27], fun s => { s with a := 0x4B, f := 0x60 }, fun s => { s with a := 0x45, f := 0x40, pc := 0x0201 },
    [.read 0x0200 0x27]⟩,
  ⟨[0x27], fun s => { s with a := 0xFF, f := 0x70 }, fun s => { s with a := 0x99, f := 0x50, pc := 0x0201 },
    [.read 0x0200 0x27]⟩,
  ⟨[0x27], fun s => { s with a := 0x00, f := 0x00 }, fun s => { s with f := 0x80, pc := 0x0201 }, [.read 0x0200 0x27]⟩,
  ⟨[0x27], fun s => { s with a := 0x00, f := 0x40 }, fun s => { s with f := 0xC0, pc := 0x0201 }, [.read 0x0200 0x27]⟩,
  ⟨[0x27], fun s => { s with a := 0xA0, f := 0x00 }, fun s => { s with a := 0x00, f := 0x90, pc := 0x0201 },
    [.read 0x0200 0x27]⟩,
  ⟨[0x2F], fun s => { s with a := 0x35, f := 0x90 }, fun s => { s with a := 0xCA, f := 0xF0, pc := 0x0201 },
    [.read 0x0200 0x2F]⟩,
  ⟨[0x37], fun s => { s with f := 0xE0 }, fun s => { s with f := 0x90, pc := 0x0201 }, [.read 0x0200 0x37]⟩,
  ⟨[0x3F], fun s => { s with f := 0xF0 }, fun s => { s with f := 0x80, pc := 0x0201 }, [.read 0x0200 0x3F]⟩,
  ⟨[0x3F], fun s => { s with f := 0x00 }, fun s => { s with f := 0x10, pc := 0x0201 }, [.read 0x0200 0x3F]⟩].all Vec.holds = true := by
  decide +kernel

theorem test_vectors_V138_to_V157 : [
  ⟨[0xC3, 0x34, 0x12], id, fun s => { s with pc := 0x1234 },
    [.read 0x0200 0xC3, .read 0x0201 0x34, .read 0x0202 0x12]⟩,
  ⟨[0xC2, 0x00, 0x80], fun s => { s with f := 0x00 }, fun s => { s with f := 0x00, pc := 0x8000 },
    [.read 0x0200 0xC2, .read 0x0201 0x00, .read 0x0202 0x80]⟩,
  ⟨[0xC2, 0x00, 0x80], fun s => { s with f := 0x80 }, fun s => { s with f := 0x80, pc := 0x0203 },
    [.read 0x0200 0xC2, .read 0x0201 0x00, .read 0x0202 0x80]⟩,
  ⟨[0xCA, 0x00, 0x80], fun s => { s with f := 0x80 }, fun s => { s with f := 0x80, pc := 0x8000 },
    [.read 0x0200 0xCA, .read 0x0201 0x00, .read 0x0202 0x80]⟩,
  ⟨[0xD2, 0x00, 0x80], fun s => { s with f := 0x10 }, fun s => { s with f := 0x10, pc := 0x0203 },
    [.read 0x0200 0xD2, .read 0x0201 0x00, .read 0x0202 0x80]⟩,
  ⟨[0xDA, 0x00, 0x80], fun s => { s with f := 0x10 }, fun s => { s with f := 0x10, pc := 0x8000 },
    [.read 0x0200 0xDA, .read 0x0201 0x00, .read 0x0202 0x80]⟩,
  ⟨[0xE9], fun s => { s with h := 0xC1, l := 0x23 }, fun s => { s with pc := 0xC123 }, [.read 0x0200 0xE9]⟩,
  ⟨[0x18, 0x05], id, fun s => { s with pc := 0x0207 }, [.read 0x0200 0x18, .read 0x0201 0x05]⟩,
  ⟨[0x18, 0xFE], id, fun s => { s with pc := 0x0200 }, [.read 0x0200 0x18, .read 0x0201 0xFE]⟩,
  ⟨[0x18, 0x80], id, fun s => { s with pc := 0x0182 }, [.read 0x0200 0x18, .read 0x0201 0x80]⟩,
  ⟨[0x18, 0x7F], id, fun s => { s with pc := 0x0281 }, [.read 0x0200 0x18, .read 0x0201 0x7F]⟩,
  ⟨[0x18, 0x00], fun s => { s with pc := 0xFFFE }, fun s => { s with pc := 0x0000 },
    [.read 0xFFFE 0x18, .read 0xFFFF 0x00]⟩,
  ⟨[0x18, 0xFD], fun s => { s with pc := 0x0000 }, fun s => { s with pc := 0xFFFF },
    [.read 0x0000 0x18, .read 0x0001 0xFD]⟩,
  ⟨[0x20, 0x10], fun s => { s with f := 0x00 }, fun s => { s with f := 0x00, pc := 0x0212 },
    [.read 0x0200 0x20, .read 0x0201 0x10]⟩,
  ⟨[0x20, 0x10], fun s => { s with f := 0x80 }, fun s => { s with f := 0x80, pc := 0x0202 },
    [.read 0x0200 0x20, .read 0x0201 0x10]⟩,
  ⟨[0x28, 0xF0], fun s => { s with f := 0x80 }, fun s => { s with f := 0x80, pc := 0x01F2 },
    [.read 0x0200 0x28, .read 0x0201 0xF0]⟩,
  ⟨[0x30, 0x10], fun s => { s with f := 0x10 }, fun s => { s with f := 0x10, pc := 0x0202 },
    [.read 0x0200 0x30, .read 0x0201 0x10]⟩,
  ⟨[0x38, 0x10], fun s => { s with f := 0x10 }, fun s => { s with f := 0x10, pc := 0x0212 },
    [.read 0x0200 0x38, .read 0x0201 0x10]⟩,
  ⟨[0xCD, 0x00, 0x30], id, fun s => { s with sp := 0xFFFC, pc := 0x3000 } |>.poke 0xFFFD 0x02 |>.poke 0xFFFC 0x03,
    [.read 0x0200 0xCD, .read 0x0201 0x00, .read 0x0202 0x30, .write 0xFFFD 0x02, .write 0xFFFC 0x03]⟩,
  ⟨[0xCD, 0x00, 0x30], fun s => { s with pc := 0xFFFD },
    fun s => { s with sp := 0xFFFC, pc := 0x3000 } |>.poke 0xFFFD 0x00 |>.poke 0xFFFC 0x00,
    [.read 0xFFFD 0xCD, .read 0xFFFE 0x00, .read 0xFFFF 0x30, .write 0xFFFD 0x00, .write 0xFFFC 0x00]⟩].all Vec.holds = true := by
  decide +kernel

theorem test_vectors_V158_to_V176 : [
  ⟨[0xC4, 0x00, 0x30], fun s => { s with f := 0x80 }, fun s => { s with f := 0x80, pc := 0x0203 },
    [.read 0x0200 0xC4, .read 0x0201 0x00, .read 0x0202 0x30]⟩,
  ⟨[0xC4, 0x00, 0x30], fun s => { s with f := 0x00 },
    fun s => { s with f := 0x00, sp := 0xFFFC, pc := 0x3000 } |>.poke 0xFFFD 0x02 |>.poke 0xFFFC 0x03,
    [.read 0x0200 0xC4, .read 0x0201 0x00, .read 0x0202 0x30, .write 0xFFFD 0x02, .write 0xFFFC 0x03]⟩,
  ⟨[0xCC, 0x00, 0x30], fun s => { s with f := 0x80 },
    fun s => { s with f := 0x80, sp := 0xFFFC, pc := 0x3000 } |>.poke 0xFFFD 0x02 |>.poke 0xFFFC 0x03,
    [.read 0x0200 0xCC, .read 0x0201 0x00, .read 0x0202 0x30, .write 0xFFFD 0x02, .write 0xFFFC 0x03]⟩,
  ⟨[0xD4, 0x00, 0x30], fun s => { s with f := 0x10 }, fun s => { s with f := 0x10, pc := 0x0203 },
    [.read 0x0200 0xD4, .read 0x0201 0x00, .read 0x0202 0x30]⟩,
  ⟨[0xDC, 0x00, 0x30], fun s => { s with f := 0x10 },
    fun s => { s with f := 0x10, sp := 0xFFFC, pc := 0x3000 } |>.poke 0xFFFD 0x02 |>.poke 0xFFFC 0x03,
    [.read 0x0200 0xDC, .read 0x0201 0x00, .read 0x0202 0x30, .write 0xFFFD 0x02, .write 0xFFFC 0x03]⟩,
  ⟨[0xC9], fun s => { s with sp := 0xD000 } |>.poke 0xD000 0x03 |>.poke 0xD001 0x02,
    fun s => { s with sp := 0xD002, pc := 0x0203 }, [.read 0x0200 0xC9, .read 0xD000 0x03, .read 0xD001 0x02]⟩,
  ⟨[0xC0], fun s => { s with f := 0x80, sp := 0xD000 } |>.poke 0xD000 0x03 |>.poke 0xD001 0x02,
    fun s => { s with f := 0x80, pc := 0x0201 }, [.read 0x0200 0xC0]⟩,
  ⟨[0xC0], fun s => { s with f := 0x00, sp := 0xD000 } |>.poke 0xD000 0x03 |>.poke 0xD001 0x02,
    fun s => { s with f := 0x00, sp := 0xD002, pc := 0x0203 },
    [.read 0x0200 0xC0, .read 0xD000 0x03, .read 0xD001 0x02]⟩,
  ⟨[0xC8], fun s => { s with f := 0x80, sp := 0xD000 } |>.poke 0xD000 0x03 |>.poke 0xD001 0x02,
    fun s => { s with f := 0x80, sp := 0xD002, pc := 0x0203 },
    [.read 0x0200 0xC8, .read 0xD000 0x03, .read 0xD001 0x02]⟩,
  ⟨[0xD0], fun s => { s with f := 0x00, sp := 0xD000 } |>.poke 0xD000 0x03 |>.poke 0xD001 0x02,
    fun s => { s with f := 0x00, sp := 0xD002, pc := 0x0203 },
    [.read 0x0200 0xD0, .read 0xD000 0x03, .read 0xD001 0x02]⟩,
  ⟨[0xD8], fun s => { s with f := 0x00, sp := 0xD000 } |>.poke 0xD000 0x03 |>.poke 0xD001 0x02,
    fun s => { s with f := 0x00, pc := 0x0201 }, [.read 0x0200 0xD8]⟩,
  ⟨[0xC7], id, fun s => { s with sp := 0xFFFC, pc := 0x0000 } |>.poke 0xFFFD 0x02 |>.poke 0xFFFC 0x01,
    [.read 0x0200 0xC7, .write 0xFFFD 0x02, .write 0xFFFC 0x01]⟩,
  ⟨[0xCF], id, fun s => { s with sp := 0xFFFC, pc := 0x0008 } |>.poke 0xFFFD 0x02 |>.poke 0xFFFC 0x01,
    [.read 0x0200 0xCF, .write 0xFFFD 0x02, .write 0xFFFC 0x01]⟩,
  ⟨[0xD7], id, fun s => { s with sp := 0xFFFC, pc := 0x0010 } |>.poke 0xFFFD 0x02 |>.poke 0xFFFC 0x01,
    [.read 0x0200 0xD7, .write 0xFFFD 0x02, .write 0xFFFC 0x01]⟩,
  ⟨[0xDF], id, fun s => { s with sp := 0xFFFC, pc := 0x0018 } |>.poke 0xFFFD 0x02 |>.poke 0xFFFC 0x01,
    [.read 0x0200 0xDF, .write 0xFFFD 0x02, .write 0xFFFC 0x01]⟩,
  ⟨[0xE7], id, fun s => { s with sp := 0xFFFC, pc := 0x0020 } |>.poke 0xFFFD 0x02 |>.poke 0xFFFC 0x01,
    [.read 0x0200 0xE7, .write 0xFFFD 0x02, .write 0xFFFC 0x01]⟩,
  ⟨[0xEF], id, fun s => { s with sp := 0xFFFC, pc := 0x0028 } |>.poke 0xFFFD 0x02 |>.poke 0xFFFC 0x01,
    [.read 0x0200 0xEF, .write 0xFFFD 0x02, .write 0xFFFC 0x01]⟩,
  ⟨[0xF7], id, fun s => { s with sp := 0xFFFC, pc := 0x0030 } |>.poke 0xFFFD 0x02 |>.poke 0xFFFC 0x01,
    [.read 0x0200 0xF7, .write 0xFFFD 0x02, .write 0xFFFC 0x01]⟩,
  ⟨[0xFF], id, fun s => { s with sp := 0xFFFC, pc := 0x0038 } |>.poke 0xFFFD 0x02 |>.poke 0xFFFC 0x01,
    [.read 0x0200 0xFF, .write 0xFFFD 0x02, .write 0xFFFC 0x01]⟩].all Vec.holds = true := by
  decide +kernel

theorem test_vectors_V177_to_V189 : [
  ⟨[0x00], fun s => { s with a := 0x12, f := 0xB0 }, fun s => { s with f := 0xB0, pc := 0x0201 }, [.read 0x0200 0x00]⟩,
  ⟨[0xF3], fun s => { s with ime := true },
    fun s => { s with pc := 0x0201, ime := false, eiPending := false, mode := .running }, [.read 0x0200 0xF3]⟩,
  ⟨[0xF3], fun s => { s with ime := false, eiPending := true },
    fun s => { s with pc := 0x0201, ime := false, eiPending := false, mode := .running }, [.read 0x0200 0xF3]⟩,
  ⟨[0xFB], fun s => { s with ime := false },
    fun s => { s with pc := 0x0201, ime := false, eiPending := true, mode := .running }, [.read 0x0200 0xFB]⟩,
  ⟨[0x00], fun s => { s with ime := false, eiPending := true },
    fun s => { s with pc := 0x0201, ime := true, eiPending := false, mode := .running }, [.read 0x0200 0x00]⟩,
  ⟨[0xFB], fun s => { s with ime := true },
    fun s => { s with pc := 0x0201, ime := true, eiPending := true, mode := .running }, [.read 0x0200 0xFB]⟩,
  ⟨[0xD9], fun s => { s with sp := 0xD000, ime := true } |>.poke 0xD000 0x03 |>.poke 0xD001 0x02,
    fun s => { s with sp := 0xD000, pc := 0x0201, ime := false, eiPending := false, mode := .running },
    [.read 0x0200 0xD9]⟩,
  ⟨[0xD9],
    fun s => { s with sp := 0xD000, ime := false, config := { Config.standard with d9Meaning := .reti } } |>.poke 0xD000 0x03 |>.poke 0xD001 0x02,
    fun s => { s with sp := 0xD002, pc := 0x0203, ime := true, eiPending := false, mode := .running },
    [.read 0x0200 0xD9, .read 0xD000 0x03, .read 0xD001 0x02]⟩,
  ⟨[0x10], id, fun s => { s with pc := 0x0201, ime := false, eiPending := false, mode := .stopped },
    [.read 0x0200 0x10]⟩,
  ⟨[0x10, 0x00], fun s => { s with config := { Config.standard with stopLength := .two } },
    fun s => { s with pc := 0x0202, ime := false, eiPending := false, mode := .stopped },
    [.read 0x0200 0x10, .read 0x0201 0x00]⟩,
  ⟨[0x76], id, fun s => { s with pc := 0x0201, ime := false, eiPending := false, mode := .halted },
    [.read 0x0200 0x76]⟩,
  ⟨[0x76], fun s => { s with mode := .halted },
    fun s => { s with pc := 0x0200, ime := false, eiPending := false, mode := .halted }, []⟩,
  ⟨[0x00], fun s => { s with mode := .stopped },
    fun s => { s with pc := 0x0200, ime := false, eiPending := false, mode := .stopped }, []⟩].all Vec.holds = true := by
  decide +kernel

/-- One step of the row stops so. -/
def stopsWith (l : List (Vec × Except Fault Refusal)) : Bool :=
  l.all fun p => match step p.1.before, p.2 with
    | .fault f, .error g => decide (f = g)
    | .refused r, .ok q => decide (r = q)
    | _, _ => false

theorem test_stops_V190_to_V201 : stopsWith [
  (⟨[0xD3], id, id, []⟩, .error (.illegalOpcode 0xD3 0x0200)),
  (⟨[0xDB], id, id, []⟩, .error (.illegalOpcode 0xDB 0x0200)),
  (⟨[0xDD], id, id, []⟩, .error (.illegalOpcode 0xDD 0x0200)),
  (⟨[0xE3], id, id, []⟩, .error (.illegalOpcode 0xE3 0x0200)),
  (⟨[0xE4], id, id, []⟩, .error (.illegalOpcode 0xE4 0x0200)),
  (⟨[0xEB], id, id, []⟩, .error (.illegalOpcode 0xEB 0x0200)),
  (⟨[0xEC], id, id, []⟩, .error (.illegalOpcode 0xEC 0x0200)),
  (⟨[0xED], id, id, []⟩, .error (.illegalOpcode 0xED 0x0200)),
  (⟨[0xF4], id, id, []⟩, .error (.illegalOpcode 0xF4 0x0200)),
  (⟨[0xFC], id, id, []⟩, .error (.illegalOpcode 0xFC 0x0200)),
  (⟨[0xFD], id, id, []⟩, .error (.illegalOpcode 0xFD 0x0200)),
  (⟨[0xCB, 0x37], id, id, []⟩, .ok (.cbPrefix 0x0200))] = true := by
  decide +kernel

theorem test_vectors_V202_to_V213 : [
  ⟨[0x00],
    fun s => { s with ime := true, config := { Config.standard with irq := .gameBoyFlat } } |>.poke 0xFF0F 0x01 |>.poke 0xFFFF 0x01,
    fun s => { s with sp := 0xFFFC, pc := 0x0040, ime := false, eiPending := false, mode := .running } |>.poke 0xFFFD 0x02 |>.poke 0xFFFC 0x00 |>.poke 0xFF0F 0x00,
    [.write 0xFFFD 0x02, .write 0xFFFC 0x00]⟩,
  ⟨[0x00],
    fun s => { s with ime := true, config := { Config.standard with irq := .gameBoyFlat } } |>.poke 0xFF0F 0x14 |>.poke 0xFFFF 0x1F,
    fun s => { s with sp := 0xFFFC, pc := 0x0050, ime := false, eiPending := false, mode := .running } |>.poke 0xFFFD 0x02 |>.poke 0xFFFC 0x00 |>.poke 0xFF0F 0x10,
    [.write 0xFFFD 0x02, .write 0xFFFC 0x00]⟩,
  ⟨[0x00],
    fun s => { s with ime := true, config := { Config.standard with irq := .gameBoyFlat } } |>.poke 0xFF0F 0x01 |>.poke 0xFFFF 0x02,
    fun s => { s with pc := 0x0201, ime := true, eiPending := false, mode := .running }, [.read 0x0200 0x00]⟩,
  ⟨[0x00],
    fun s => { s with ime := false, config := { Config.standard with irq := .gameBoyFlat } } |>.poke 0xFF0F 0x01 |>.poke 0xFFFF 0x01,
    fun s => { s with pc := 0x0201, ime := false, eiPending := false, mode := .running }, [.read 0x0200 0x00]⟩,
  ⟨[0xCB],
    fun s => { s with sp := 0xD000, ime := true, config := { Config.standard with irq := .gameBoyFlat } } |>.poke 0xFF0F 0x10 |>.poke 0xFFFF 0x10,
    fun s => { s with sp := 0xCFFE, pc := 0x0060, ime := false, eiPending := false, mode := .running } |>.poke 0xCFFF 0x02 |>.poke 0xCFFE 0x00 |>.poke 0xFF0F 0x00,
    [.write 0xCFFF 0x02, .write 0xCFFE 0x00]⟩,
  ⟨[0xFB],
    fun s => { s with ime := false, config := { Config.standard with irq := .gameBoyFlat } } |>.poke 0xFF0F 0x01 |>.poke 0xFFFF 0x01,
    fun s => { s with pc := 0x0201, ime := false, eiPending := true, mode := .running }, [.read 0x0200 0xFB]⟩,
  ⟨[0x00],
    fun s => { s with ime := false, eiPending := true, config := { Config.standard with irq := .gameBoyFlat } } |>.poke 0xFF0F 0x01 |>.poke 0xFFFF 0x01,
    fun s => { s with pc := 0x0201, ime := true, eiPending := false, mode := .running }, [.read 0x0200 0x00]⟩,
  ⟨[0x76],
    fun s => { s with ime := false, eiPending := true, config := { Config.standard with irq := .gameBoyFlat } } |>.poke 0xFF0F 0x04 |>.poke 0xFFFF 0x04,
    fun s => { s with pc := 0x0201, ime := true, eiPending := false, mode := .halted }, [.read 0x0200 0x76]⟩,
  ⟨[0x00],
    fun s => { s with pc := 0x0201, ime := true, mode := .halted, config := { Config.standard with irq := .gameBoyFlat } } |>.poke 0xFF0F 0x04 |>.poke 0xFFFF 0x04,
    fun s => { s with sp := 0xFFFC, pc := 0x0050, ime := false, eiPending := false, mode := .running } |>.poke 0xFFFD 0x02 |>.poke 0xFFFC 0x01 |>.poke 0xFF0F 0x00,
    [.write 0xFFFD 0x02, .write 0xFFFC 0x01]⟩,
  ⟨[0x3C],
    fun s => { s with pc := 0x0201, ime := false, mode := .halted, config := { Config.standard with irq := .gameBoyFlat } } |>.poke 0xFF0F 0x04 |>.poke 0xFFFF 0x04,
    fun s => { s with a := 0x01, pc := 0x0202, ime := false, eiPending := false, mode := .running },
    [.read 0x0201 0x3C]⟩,
  ⟨[0x3C],
    fun s => { s with pc := 0x0201, ime := false, mode := .halted, config := { Config.standard with irq := .gameBoyFlat } } |>.poke 0xFF0F 0x04 |>.poke 0xFFFF 0x00,
    fun s => { s with pc := 0x0201, ime := false, eiPending := false, mode := .halted }, []⟩].all Vec.holds = true := by
  decide +kernel

theorem test_stops_V209_to_V209 : stopsWith [
  (⟨[0x76], fun s => { s with ime := false, config := { Config.standard with irq := .gameBoyFlat } } |>.poke 0xFF0F 0x04 |>.poke 0xFFFF 0x04, id, []⟩, .error (.haltBug 0x0200))] = true := by
  decide +kernel

/-! ### Witnesses: a state and operands that meet the hypotheses of a statement -/

/-- `base` with bytes at pc and an empty record. -/
def sample (bytes : List Byte) : State := { base.placeBytes base.pc bytes with busLog := some [] }

/-- A request at 0x0048 and then one at 0x0060 held by the environment, IME = 1. -/
def withRequests (s : State) : State :=
  { s with ime := true, irqRequests := [0x0048, 0x0060], config := { s.config with irq := .external } }

/-- The Game Boy instance with IE and IF given, IME = 1. -/
def withSources (s : State) (i : IrqInstance) (ie flags : Byte) : State :=
  { s with ime := true, config := { s.config with irq := i } } |>.poke 0xFFFF ie |>.poke 0xFF0F flags

/-- One step, where it answers a next state. -/
def after (s : State) : State :=
  match step s with
  | .next t => t
  | .fault _ => s
  | .refused _ => s

theorem witness_RegularColumnsDecode : operandTable 0 = .reg .b ∧ operandTable 7 = .reg .a := by decide

theorem witness_InstructionLengths :
    let noRow : List Byte := [0xCB, 0xD3, 0xDB, 0xDD, 0xE3, 0xE4, 0xEB, 0xEC, 0xED, 0xF4, 0xFC, 0xFD]
    (0x00 : Byte) ∉ noRow ∧ decode [0x00] = .ok (.nop, []) ∧ (0xFA : Byte) ∉ noRow ∧
      decode [0xFA, 0x00, 0xC0] = .ok (.ldAAtA16 0xC000, []) ∧ (sample [0x00]).peek (sample [0x00]).pc ∉ noRow := by
  refine ⟨?_, rfl, ?_, rfl, ?_⟩ <;> decide +kernel

theorem witness_NoInstructionBytes :
    decode [0xD3] = .ok (.unlistedD3, []) ∧ decode [0xCB, 0x37] = .ok (.cbPrefix, [0x37]) ∧
      decode [0x00] = .ok (.nop, []) := ⟨rfl, rfl, rfl⟩

theorem witness_StepRunsDecodedInstruction :
    let s := sample [0xC3, 0x34, 0x12]
    let p := s.takeInput.2
    p.awake s.takeInput.1 ∧ ¬ p.interruptDue ∧ decode (p.ready.readBytes p.pc 3).1 = .ok (.jpA16 0x1234, []) :=
  ⟨.inl rfl, fun h => absurd h.1 (by decide), rfl⟩

theorem witness_StepRunsDecodedInstruction_woken_by_request :
    let s := { withRequests (sample [0x00]) with ime := false, mode := .halted }
    s.takeInput.2.awake s.takeInput.1 ∧ ¬ s.takeInput.2.interruptDue :=
  ⟨.inr (.inl ⟨rfl, rfl⟩), fun h => absurd h.1 (by decide)⟩

theorem witness_StepRunsDecodedInstruction_woken_by_button :
    let s := { sample [0x00] with
      mode := .stopped, inputs := [{ buttonPress := true, requests := none, events := 0, bus := none }] }
    s.takeInput.2.awake s.takeInput.1 ∧ ¬ s.takeInput.2.interruptDue :=
  ⟨.inr (.inr ⟨rfl, rfl⟩), fun h => absurd h.1 (by decide)⟩

theorem witness_WaitingStepChangesNothing :
    (let s := { sample [0x00] with mode := .halted }
     ¬ s.takeInput.2.awake s.takeInput.1) ∧
    (let s := { sample [0x00] with mode := .stopped }
     ¬ s.takeInput.2.awake s.takeInput.1) := by
  unfold State.awake
  decide +kernel

theorem witness_InterruptInstances :
    (let s := { sample [0x00] with mode := .halted }
     s.config.irq = .noInterrupts ∧ s.mode = .halted) ∧
    (let s := withRequests (sample [0x00])
     s.config.irq = .external ∧ s.irqRequests = 0x0048 :: [0x0060]) := by
  decide +kernel

/-- Of an own interface of the platform nothing is known: only what holds whatever it offers. -/
theorem witness_InterruptInstances_platform :
    ∃ s : State, s.config.irq = .platform ∧ (s.irqRequested = true ↔ Config.irqOffer s.bus ≠ none) :=
  ⟨{ base with config := { Config.standard with irq := .platform } }, rfl, by
    simp [State.irqRequested, Option.isSome_iff_ne_none]⟩

/-- An input that presses a button, draws two requests, has the events of sources 0 and 2, and leaves the bus. -/
def anInput : PlatformInput := { buttonPress := true, requests := some [0x0048, 0x0060], events := 5, bus := none }

theorem witness_PlatformInputDelivers :
    (sample []).inputs = [] ∧
      (let s := { sample [] with inputs := [anInput] }
       s.config.irq = .noInterrupts ∧ s.inputs = anInput :: [] ∧ s.takeInput = (true, { s with inputs := [] })) ∧
      (let s := { withRequests (sample []) with inputs := [anInput, anInput], irqRequests := [] }
       s.config.irq = .external ∧ s.inputs = anInput :: [anInput] ∧
         s.takeInput.2.irqRequests = [0x0048, 0x0060] ∧ s.takeInput.2.inputs = [anInput]) ∧
      (let s := { withSources (sample []) .gameBoy 0 0x12 with inputs := [anInput] }
       s.config.irq = .gameBoy ∧ s.takeInput.2.peek 0xFF0F = 0xF7) ∧
      (let s := { sample [] with
         config := { Config.standard with irq := .platform }, inputs := [{ anInput with bus := some [7] }] }
       s.config.irq = .platform ∧ s.takeInput.2.bus = [7]) := by
  refine ⟨?_, ?_, ?_, ?_, ?_⟩ <;> decide +kernel

theorem witness_InterruptEntry :
    (let s := withRequests (sample [0x00])
     s.takeInput.2.awake s.takeInput.1 ∧ s.takeInput.2.interruptDue) ∧
    (let s := { withSources (sample [0x00]) .gameBoy 0x1F 0x10 with mode := .halted }
     s.takeInput.2.awake s.takeInput.1 ∧ s.takeInput.2.interruptDue) ∧
    (let s := { sample [0x00] with
       ime := true
       config := { Config.standard with irq := .external }
       inputs := [{ buttonPress := false, requests := some [0x0040], events := 0, bus := none }] }
     s.takeInput.2.awake s.takeInput.1 ∧ s.takeInput.2.interruptDue) := by
  unfold State.awake State.interruptDue
  decide +kernel

theorem witness_GameBoySelect :
    (let s := withSources (sample [0x00]) .gameBoy 0x1F 0x03
     s.config.irq = .gameBoy ∧ (s.peek 0xFFFF).getLsbD 0 = true ∧ (s.peek 0xFF0F).getLsbD 0 = true) ∧
    (let s := withSources (sample [0x00]) .gameBoyFlat 0x18 0x13
     s.config.irq = .gameBoyFlat ∧ (s.peek 0xFFFF).getLsbD 4 = true ∧ (s.peek 0xFF0F).getLsbD 4 = true ∧
       ∀ j : Fin 5, j < 4 → ((s.peek 0xFFFF).getLsbD j && (s.peek 0xFF0F).getLsbD j) = false) := by
  decide +kernel

theorem witness_DeviceEventSetsIf :
    (withSources base .gameBoy 0 0).config.irq = .gameBoy ∧
      (withSources base .gameBoyFlat 0 0).config.irq = .gameBoyFlat := by
  decide +kernel

theorem witness_EiDelaysOneInstruction :
    let s := { withRequests (sample [0xFB, 0x03]) with ime := false }
    let t := after s
    let u := after t
    s.inputs = [] ∧ s.mode = .running ∧ s.ime = false ∧ s.eiPending = false ∧ s.peek s.pc = 0xFB ∧
      step s = .next t ∧ decode (({ t with ime := true, eiPending := false }).readBytes t.pc 1).1 = .ok (.incBc, []) ∧
      step t = .next u ∧ u.mode = .running ∧ u.ime = true ∧ u.irqRequested = true ∧ (after u).pc = 0x0048 := by
  refine ⟨?_, ?_, ?_, ?_, ?_, rfl, rfl, rfl, ?_, ?_, ?_, ?_⟩ <;> decide +kernel

/-- The instruction after `EI` is a `DI`, by each of its bytes. -/
theorem witness_EiDelaysOneInstruction_di :
    let decoded := fun op : Byte =>
      let t := after { withRequests (sample [0xFB, op]) with ime := false }
      t.config.d9Meaning = .di ∧
        (decode (({ t with ime := true, eiPending := false }).readBytes t.pc 1).1).toOption =
          some (if op = 0xF3 then .diF3 else .diD9, [])
    decoded 0xF3 ∧ decoded 0xD9 := by
  decide +kernel

theorem witness_HandlerReturnsByEiRet :
    let s := withSources ((sample [0x00]).poke 0x0058 0xFB |>.poke 0x0059 0xC9) .gameBoy 0x08 0x08
    let t := after s
    s.inputs = [] ∧ s.stackIsPlain ∧ s.config.irq = .gameBoy ∧ s.mode = .running ∧ s.ime = true ∧
      s.irqRequested = true ∧ step s = .next t ∧ t.onPlatform t.pc = false ∧ t.onPlatform (t.pc + 1) = false ∧
      t.peek t.pc = 0xFB ∧ t.peek (t.pc + 1) = 0xC9 := by
  unfold State.stackIsPlain
  refine ⟨?_, ?_, ?_, ?_, ?_, ?_, rfl, ?_, ?_, ?_, ?_⟩ <;> decide +kernel

theorem witness_HandlerReturnsByReti :
    let s := { withRequests ((sample [0x00]).poke 0x0048 0xD9) with
      config := { Config.standard with irq := .external, d9Meaning := .reti } }
    let t := after s
    s.inputs = [] ∧ s.stackIsPlain ∧ s.config.d9Meaning = .reti ∧ s.mode = .running ∧ s.ime = true ∧
      s.irqRequested = true ∧ step s = .next t ∧ t.onPlatform t.pc = false ∧ t.peek t.pc = 0xD9 := by
  unfold State.stackIsPlain
  refine ⟨?_, ?_, ?_, ?_, ?_, ?_, rfl, ?_, ?_⟩ <;> decide +kernel

theorem witness_StepStopsExactly :
    stopsWith [
      (⟨[0xFD], id, id, []⟩, .error (.illegalOpcode 0xFD 0x0200)),
      (⟨[0x76], fun s => { withRequests s with ime := false }, id, []⟩, .error (.haltBug 0x0200)),
      (⟨[0xCB], id, id, []⟩, .ok (.cbPrefix 0x0200))] = true := by
  decide +kernel

/-- HALT in the step after EI runs with IME = 1, and does not fault. -/
theorem witness_StepStopsExactly_halt_after_ei :
    (after { withRequests (sample [0x76]) with ime := false, eiPending := true }).mode = .halted := by decide +kernel

theorem witness_FirstStepTakesNoInterrupt :
    let s := { sample [0xD9] with config := { Config.standard with d9Meaning := .reti } }
    State.reset.isResetState ∧ s.isResetState ∧ step s = .next (after s) ∧ (after s).ime = true := by
  refine ⟨⟨rfl, rfl, rfl, rfl⟩, ⟨rfl, rfl, rfl, rfl⟩, rfl, ?_⟩
  decide +kernel

theorem witness_StepKeepsInvariant :
    let s := sample [0xF1]
    s.inv ∧ step s = .next (after s) := by
  refine ⟨⟨?_, ?_⟩, rfl⟩ <;> decide +kernel

/-- A state in which each pair holds an address of the I/O page, at both ends of the page and inside it. -/
theorem witness_IoPageEffectiveAddress :
    let addr := fun o : Byte => (BitVec.ofNat 16 (0xFF00 + o.toNat) : Word)
    let s := ((base.setBc 0xFF00).setDe 0xFFFF).setHl 0xFF44
    s.bc = addr 0x00 ∧ s.de = addr 0xFF ∧ s.hl = addr 0x44 := by
  decide +kernel

/-- A location of the platform's own bus, IF under the instance `gameBoy` beside it, and a location of FlatRAM. -/
theorem witness_BusInstances :
    (let s := { base with config := { Config.standard with bus := .platform, irq := .gameBoy } }
     s.onPlatform 0xFF0E = true ∧ s.onPlatform 0xFF0F = false ∧ s.onPlatform 0xFFFF = false) ∧
      base.onPlatform 0xFF0E = false := by
  decide +kernel

theorem witness_PopInvertsPush :
    let s := { base with f := 0xF0, sp := 0xFF11, config := { Config.standard with irq := .gameBoy } }
    s.sp - 2 = 0xFF0F ∧ ¬ s.stackIsPlain ∧ { s with sp := 0xFF12 }.stackIsPlain ∧ s.f &&& 0x0F = 0 := by
  unfold State.stackIsPlain
  decide +kernel

theorem witness_ReturnInvertsCall : (sample [0xCD, 0x00, 0x80]).stackIsPlain := by
  unfold State.stackIsPlain
  decide +kernel

theorem witness_SubtractOperations :
    let P := fun op : AluOp => op = .sub ∨ op = .sbc ∨ op = .cp
    P .sub ∧ P .sbc ∧ P .cp := ⟨.inl rfl, .inr (.inl rfl), .inr (.inr rfl)⟩

theorem witness_LogicOperations :
    let P := fun op : AluOp => op = .and ∨ op = .xor ∨ op = .or
    P .and ∧ P .xor ∧ P .or := ⟨.inl rfl, .inr (.inl rfl), .inr (.inr rfl)⟩

/-- The four cases of the adjustment, at the boundary values 0x99 and 0x9A, and the low digit 9 and A. -/
theorem witness_DecimalAdjust :
    let low := fun s : State => s.flagH = true ∨ (s.flagN = false ∧ 9 < s.a.toNat % 16)
    let high := fun s : State => s.flagC = true ∨ (s.flagN = false ∧ 0x99 < s.a.toNat)
    (¬ low { base with a := 0x99 } ∧ ¬ high { base with a := 0x99 }) ∧
      (low { base with a := 0x9A } ∧ high { base with a := 0x9A }) ∧
      (low { base with a := 0x0A } ∧ ¬ high { base with a := 0x0A }) ∧
      (¬ low { base with a := 0xA0 } ∧ high { base with a := 0xA0 }) := by
  decide +kernel

theorem witness_DecimalAddition :
    let s := { base with a := 0x99 }
    s.a = bcd 99 ∧ s.operand (.reg .a) = bcd 99 ∧ s.operand (.d8 0x07) = bcd 7 ∧ s.operand (.reg .b) = bcd 0 ∧
      { s with h := 0xC0, mem := [(0xC000, 0x42)] }.operand .atHl = bcd 42 := by
  decide +kernel

theorem witness_DecimalSubtraction :
    let s := { base with b := 0x99 }
    s.a = bcd 0 ∧ s.operand (.reg .b) = bcd 99 ∧ s.operand (.d8 0x10) = bcd 10 := by
  decide +kernel

theorem witness_ConditionalCalls : base.holds .nz = true ∧ base.holds .z = false := by decide +kernel

theorem witness_ControlInstructions :
    base.config.stopLength = .one ∧ base.config.d9Meaning = .di ∧
      ({ base with config := { Config.standard with stopLength := .two } } : State).config.stopLength = .two := by
  decide +kernel

theorem witness_D9AsReturn :
    ({ base with config := { Config.standard with d9Meaning := .reti } } : State).config.d9Meaning = .reti := by
  decide +kernel

theorem witness_HaltOrHaltBug :
    base.irqRequested = false ∧ (withRequests base).ime = true ∧
      (let s := { withRequests base with ime := false }
       s.ime = false ∧ s.irqRequested = true) := by
  decide +kernel

theorem witness_UnlistedBytesFault : (0xD3, Instr.unlistedD3) ∈ unlistedRows ∧ (0xFD, Instr.unlistedFD) ∈ unlistedRows := by
  decide +kernel

theorem witness_FlagTable : ∃ t, exec .scf base = .next t ∧ flagEffects .scf = ⟨.kept, .cleared, .cleared, .set⟩ :=
  ⟨_, rfl, rfl⟩

theorem witness_ControlStateFrame :
    (∃ t, exec .ei base = .next t ∧ t.eiPending = true) ∧ (∃ t, exec .diF3 base = .next t ∧ t.ime = false) ∧
      ∃ t, exec .stop base = .next t ∧ t.mode = .stopped :=
  ⟨⟨_, rfl, rfl⟩, ⟨_, rfl, rfl⟩, ⟨_, rfl, rfl⟩⟩

theorem witness_AccessesAndMemoryFrame :
    (∃ t, exec .incAtHl (sample []) = .next t) ∧ (sample []).busLog = some [] ∧ base.busLog = none ∧
      dataAccesses .nop base = [] ∧ (sample []).onPlatform 1 = false ∧ ¬ stores .incAtHl (sample []) 1 :=
  ⟨⟨_, rfl⟩, rfl, rfl, rfl, rfl, by unfold stores; decide +kernel⟩

theorem witness_ParametersActLocally :
    (∃ t, exec .diD9 base = .next t ∧ base.config.d9Meaning = .di) ∧
      (∃ t, exec .stop base = .next t ∧ base.config.stopLength = .one) ∧
      ∃ t, exec .nop base = .next t ∧ Instr.nop ≠ .diD9 ∧ Instr.nop ≠ .stop :=
  ⟨⟨_, rfl, rfl⟩, ⟨_, rfl, rfl⟩, ⟨_, rfl, by decide, by decide⟩⟩

end Sys2Proof.Tests
end

section
/-! PROOF. The statement on high-page addressing (O26): a load of A or a store of A makes its one access at the address
its addressing mode gives, whatever the mode, so the modes agree as soon as their addresses do. -/

namespace Sys2Proof.Machine

/-! ### Loads and stores of A at a given address -/

/-- The instruction loads A by one read of `addr`, and leaves memory as it was (R130). -/
def LoadsAAt (i : Instr) (addr : Word) (s : State) : Prop :=
  ∃ t, exec i s = .next t ∧ t.a = (s.memRead addr).1 ∧ t.bus = (s.memRead addr).2.bus ∧ t.mem = s.mem

/-- The instruction does to memory and to the bus what one write of A to `addr` does (R130). -/
def StoresAAt (i : Instr) (addr : Word) (s : State) : Prop :=
  ∃ t, exec i s = .next t ∧ t.bus = (s.memWrite addr s.a).bus ∧ t.mem = (s.memWrite addr s.a).mem

@[simp] theorem State.a_setReg_a (s : State) (v : Byte) : (s.setReg .a v).a = v := rfl

section
variable {i : Instr} {x addr len hl : Word} {s : State}

theorem LoadsAAt.of_loadByte (h : exec i s = loadByte s .a x len) (hx : x = addr) : LoadsAAt i addr s := by
  subst hx
  exact ⟨_, h, by simp, by simp, by simp⟩

theorem StoresAAt.of_storeByte (h : exec i s = storeByte s x (s.reg .a) len) (hx : x = addr) :
    StoresAAt i addr s := by
  subst hx
  exact ⟨_, h, by simp, by simp⟩

/-- The read comes before HL moves (R131). -/
theorem LoadsAAt.of_loadAThenStepHl (h : exec i s = loadAThenStepHl s hl) (hx : s.hl = addr) :
    LoadsAAt i addr s := by
  subst hx
  exact ⟨_, h, by simp, by simp, by simp⟩

/-- The write comes before HL moves (R131). -/
theorem StoresAAt.of_storeAThenStepHl (h : exec i s = storeAThenStepHl s hl) (hx : s.hl = addr) :
    StoresAAt i addr s := by
  subst hx
  exact ⟨_, h, by simp, by simp⟩

end

/-! ### High-page addressing -/

/-- Settles O26: each instruction's meaning is one of the four shared loads and stores of A, at the address of its
addressing mode, and `ioAddress` is 0xFF00 plus the offset without a wrap. -/
theorem ioPageEffectiveAddress : Obligations.IoPageEffectiveAddress := by
  unfold Obligations.IoPageEffectiveAddress
  intro o rest s addr sc reads writes
  have io : ioAddress o = addr := (ofNat_ioAddress o).symm
  have inPage : addr.toNat = 0xFF00 + o.toNat := io ▸ ioAddress_toNat o
  refine ⟨Laws.RoundTrip.ldAtIoA8A o rest, Laws.RoundTrip.ldAAtIoA8 o rest, Laws.RoundTrip.ldAtIoCA rest,
    Laws.RoundTrip.ldAAtIoC rest, inPage, ?a8Store, ?a8Load, ?cStore, ?cLoad, ?a16Store, ?a16Load, ?bc, ?de, ?hl⟩
  case a8Store => exact StoresAAt.of_storeByte rfl io
  case a8Load => exact LoadsAAt.of_loadByte rfl io
  case cStore => exact StoresAAt.of_storeByte rfl io
  case cLoad => exact LoadsAAt.of_loadByte rfl io
  case a16Store => exact StoresAAt.of_storeByte rfl rfl
  case a16Load => exact LoadsAAt.of_loadByte rfl rfl
  case bc => exact fun h => ⟨StoresAAt.of_storeByte rfl h, LoadsAAt.of_loadByte rfl h⟩
  case de => exact fun h => ⟨StoresAAt.of_storeByte rfl h, LoadsAAt.of_loadByte rfl h⟩
  case hl =>
    exact fun h => ⟨StoresAAt.of_storeByte rfl h, LoadsAAt.of_loadByte rfl h,
      StoresAAt.of_storeAThenStepHl rfl h, LoadsAAt.of_loadAThenStepHl rfl h,
      StoresAAt.of_storeAThenStepHl rfl h, LoadsAAt.of_loadAThenStepHl rfl h⟩

end Sys2Proof.Machine
end

section
/-! PROOF. The statement on instruction lengths (O6): the row that the first byte selects gives the length, so it is
enough to read the length off the opcode map, and to know which rows hold no instruction of the source table. -/

namespace Sys2Proof

/-! ### The length of a row and the bytes of its instructions -/

/-- What has been decoded is the encoding of the instruction, with the bytes left over after it (R100, R122). -/
theorem eq_encode_append_of_decode {bs rest : List Byte} {i : Instr} (h : decode bs = .ok (i, rest)) :
    bs = encode i ++ rest := by
  obtain ⟨op, bytes, rfl, hrow⟩ := decode_ok h
  have henc := opcodeRow_encodesAs op
  obtain ⟨hr, rfl⟩ | ⟨form, v, hr, rfl, rfl⟩ | ⟨form, v, hr, rfl, rfl⟩ := hrow <;> rw [hr] at henc
  case inl => rw [show encode i = [op] from henc]; rfl
  case inr.inl => rw [show encode (form v) = [op, v] from henc v]; rfl
  case inr.inr => rw [show encode (form v) = [op, lowByte v, highByte v] from henc v]; rfl

/-- The instruction decoded is as long as the row of its first byte says (R100). -/
theorem length_encode_of_decode {op : Byte} {bytes rest : List Byte} {i : Instr}
    (h : decode (op :: bytes) = .ok (i, rest)) : (encode i).length = (opcodeRow op).length := by
  obtain ⟨op', bytes', heq, hrow⟩ := decode_ok h
  obtain ⟨rfl, rfl⟩ := List.cons.inj heq
  have henc := opcodeRow_encodesAs op
  obtain ⟨hr, -⟩ | ⟨form, v, hr, -, rfl⟩ | ⟨form, v, hr, -, rfl⟩ := hrow <;> rw [hr] at henc ⊢
  case inl => exact congrArg List.length henc
  case inr.inl => exact congrArg List.length (henc v)
  case inr.inr => exact congrArg List.length (henc v)

/-- The bytes left over are those after the row's length, as they stand: there is no padding (R100). -/
theorem rest_of_decode {op : Byte} {bytes rest : List Byte} {i : Instr}
    (h : decode (op :: bytes) = .ok (i, rest)) : rest = (op :: bytes).drop (opcodeRow op).length := by
  rw [eq_encode_append_of_decode h, ← length_encode_of_decode h, List.drop_left]

/-- A string decodes exactly where it is as long as the row of its first byte says (R100). -/
theorem exists_decode_iff (op : Byte) (bytes : List Byte) :
    (∃ i rest, decode (op :: bytes) = .ok (i, rest)) ↔ (opcodeRow op).length ≤ bytes.length + 1 := by
  constructor
  · rintro ⟨i, rest, h⟩
    rw [← length_encode_of_decode h, ← List.length_cons (a := op), eq_encode_append_of_decode h, List.length_append]
    exact Nat.le_add_right _ _
  · intro hlen
    cases hr : opcodeRow op with
    | op i => exact ⟨i, bytes, decode_op hr bytes⟩
    | operand8 form =>
      match bytes with
      | [] => simp [hr, Row.length] at hlen
      | v :: t => exact ⟨form v, t, decode_operand8 hr v t⟩
    | operand16 form =>
      match bytes with
      | [] | [_] => simp [hr, Row.length] at hlen
      | lo :: hi :: t =>
        have h := decode_operand16 hr (joinBytes hi lo) t
        rw [Machine.lowByte_joinBytes, Machine.highByte_joinBytes] at h
        exact ⟨_, t, h⟩

/-! ### The first bytes without a row of the source table -/

/-- The first bytes that have a row in the opcode map but start no instruction of the source table (R118, R119). -/
def excludedFirstBytes : List Byte := 0xCB :: unlistedRows.map Prod.fst

/-- Every term is an instruction of the source table, the 0xCB row, or one of the eleven unlisted bytes. -/
theorem Instr.wellFormed_or_excluded (i : Instr) :
    i.wellFormed = true ∨ i = .cbPrefix ∨ ∃ op, (op, i) ∈ unlistedRows := by
  unfold wellFormed unlisted excludedPrefix
  split
  case h_12 => split <;> simp
  all_goals right; right; simp [unlistedRows]

/-- What decodes from any other first byte is an instruction of the source table (R100): the encoding of each excluded
term starts with its own excluded byte. -/
theorem wellFormed_of_decode {op : Byte} {bytes rest : List Byte} {i : Instr}
    (h : decode (op :: bytes) = .ok (i, rest)) (hop : op ∉ excludedFirstBytes) : i.wellFormed = true := by
  have encode_unlisted : ∀ p ∈ unlistedRows, encode p.2 = [p.1] := by decide
  have hbytes := eq_encode_append_of_decode h
  obtain hw | rfl | ⟨op', hmem⟩ := i.wellFormed_or_excluded
  · exact hw
  · obtain rfl : op = 0xCB := (List.cons.inj hbytes).1
    exact absurd List.mem_cons_self hop
  · rw [encode_unlisted _ hmem] at hbytes
    obtain rfl : op = op' := (List.cons.inj hbytes).1
    exact absurd (List.mem_cons_of_mem _ (List.mem_map_of_mem hmem)) hop

/-! ### The bytes that a fetch reads -/

namespace Machine

@[simp] theorem State.length_readBytes (s : State) (a : Word) (n : Nat) : (s.readBytes a n).1.length = n := by
  induction n generalizing s a with
  | zero => rfl
  | succ n ih => exact congrArg Nat.succ (ih _ _)

/-- What is fetched at pc is decoded from exactly as many bytes as the row of the byte at pc says (R91, R100). -/
theorem State.decode_readBytes_pc (s : State) :
    decode (s.readBytes s.pc (opcodeRow (s.peek s.pc)).length).1 = .ok (s.fetch.1, []) := by
  obtain ⟨n, hn⟩ : ∃ n, (opcodeRow (s.peek s.pc)).length = n + 1 := by
    cases opcodeRow (s.peek s.pc) <;> exact ⟨_, rfl⟩
  have hread : (s.readBytes s.pc (n + 1)).1 = s.peek s.pc :: ((s.memRead s.pc).2.readBytes (s.pc + 1) n).1 := rfl
  obtain ⟨i, rest, hdec⟩ := (exists_decode_iff (s.peek s.pc) ((s.memRead s.pc).2.readBytes (s.pc + 1) n).1).mpr
    (by rw [hn, length_readBytes])
  have hrest : rest = [] := by
    rw [rest_of_decode hdec, hn, List.drop_eq_nil_iff, List.length_cons, length_readBytes]
  rw [hrest, ← hread] at hdec
  rw [hn, hdec, fetch_of_readBytes hdec]

end Machine

/-! ### Instruction lengths -/

/-- Settles O6: the lengths of the statement are those of the rows of the opcode map, and the row of the first byte
says how many bytes are decoded, encoded and fetched. -/
theorem instructionLengths : Obligations.InstructionLengths := by
  unfold Obligations.InstructionLengths
  intro two three noRow len
  have len_eq : ∀ op, len op = (opcodeRow op).length := by decide +kernel +zetaReduce
  refine ⟨?counts, fun op bytes hop => ?decoding, fun s _ => ?fetching⟩
  case counts => decide +kernel +zetaReduce
  case decoding =>
    rw [len_eq]
    exact ⟨exists_decode_iff op bytes, fun i rest h =>
      ⟨rest_of_decode h, length_encode_of_decode h, wellFormed_of_decode h hop⟩⟩
  case fetching =>
    rw [len_eq]
    exact s.decode_readBytes_pc

end Sys2Proof
end

section
/-! PROOF. The statements on the encoding (O1 to O5, O54, O55): every instruction stands in the row of its own opcode
byte, so its encoding decodes to it; a regular group of the map is read off at each of its bytes. -/

namespace Sys2Proof

/-! ### The round trip -/

/-- The encoding of an instruction, with anything after it, decodes to the instruction: by its operand, none, one byte
or two (R100, R113). -/
theorem decode_encode_append (i : Instr) (t : List Byte) : decode (encode i ++ t) = .ok (i, t) := by
  cases i
  case ldBcD16 v | ldAtA16Sp v | ldDeD16 v | ldHlD16 v | ldSpD16 v | jpNzA16 v | jpA16 v | callNzA16 v | jpZA16 v |
      callZA16 v | callA16 v | jpNcA16 v | callNcA16 v | jpCA16 v | callCA16 v | ldAtA16A v | ldAAtA16 v =>
    exact decode_operand16 rfl v t
  case ldBD8 v | ldCD8 v | ldDD8 v | ldED8 v | ldHD8 v | ldLD8 v | ldAtHlD8 v | ldAD8 v | jrR8 v | jrNzR8 v |
      jrZR8 v | jrNcR8 v | jrCR8 v | addAD8 v | adcAD8 v | subD8 v | sbcAD8 v | andD8 v | xorD8 v | orD8 v | cpD8 v |
      ldAtIoA8A v | ldAAtIoA8 v | addSpR8 v | ldHlSpR8 v =>
    exact decode_operand8 rfl v t
  all_goals exact decode_op rfl t

/-- The bytes of an instruction, with anything after them, decode to it (R100). -/
theorem decode_of_encode {bs : List Byte} {i : Instr} (h : encode i = bs) (t : List Byte) :
    decode (bs ++ t) = .ok (i, t) := h ▸ decode_encode_append i t

/-- Settles O2: what decodes is the encoding of the instruction and the rest, and every encoding decodes. -/
theorem decodeIffEncode : Obligations.DecodeIffEncode := by
  intro bytes rest i
  constructor
  · exact eq_encode_append_of_decode
  · rintro rfl
    exact decode_encode_append i rest

/-! ### The first bytes that start no instruction -/

/-- The encoding of an unlisted term is its own byte (R118). -/
theorem encode_of_mem_unlistedRows {op : Byte} {i : Instr} (h : (op, i) ∈ unlistedRows) : encode i = [op] := by
  have key : ∀ p ∈ unlistedRows, encode p.2 = [p.1] := by decide
  exact key _ h

theorem Instr.unlisted_iff (i : Instr) : i.unlisted = true ↔ ∃ op, (op, i) ∈ unlistedRows := by
  have key : ∀ p ∈ unlistedRows, p.2.unlisted = true := by decide
  refine ⟨fun h => ?_, fun ⟨op, h⟩ => key _ h⟩
  obtain hw | rfl | hmem := i.wellFormed_or_excluded
  · simp [wellFormed, h] at hw
  · exact absurd h Bool.false_ne_true
  · exact hmem

theorem Instr.excludedPrefix_iff (i : Instr) : i.excludedPrefix = true ↔ i = .cbPrefix := by
  unfold excludedPrefix
  split <;> simp_all

theorem Instr.wellFormed_eq_false_iff (i : Instr) :
    i.wellFormed = false ↔ i.excludedPrefix = true ∨ i.unlisted = true := by
  cases h : i.unlisted <;> simp [wellFormed, h]

/-- An instruction of one byte is what that byte decodes to, and nothing else does (R100). -/
theorem eq_of_decode_of_encode {op : Byte} {bytes rest : List Byte} {i j : Instr}
    (h : decode (op :: bytes) = .ok (i, rest)) (hj : encode j = [op]) : i = j := by
  have hdec : decode (op :: bytes) = .ok (j, bytes) := decode_of_encode hj bytes
  exact congrArg Prod.fst (Except.ok.inj (h.symm.trans hdec))

/-- The byte of an unlisted term decodes to it, and only that byte does (R118). -/
theorem exists_mem_unlistedRows_iff {op : Byte} {bytes rest : List Byte} {i : Instr}
    (h : decode (op :: bytes) = .ok (i, rest)) :
    (∃ op', (op', i) ∈ unlistedRows) ↔ op ∈ unlistedRows.map Prod.fst := by
  constructor
  · rintro ⟨op', hmem⟩
    have hbytes := eq_encode_append_of_decode h
    rw [encode_of_mem_unlistedRows hmem] at hbytes
    obtain rfl : op = op' := (List.cons.inj hbytes).1
    exact List.mem_map_of_mem hmem
  · intro hop
    obtain ⟨⟨op', j⟩, hmem, rfl⟩ := List.mem_map.mp hop
    obtain rfl := eq_of_decode_of_encode h (encode_of_mem_unlistedRows hmem)
    exact ⟨_, hmem⟩

theorem eq_cbPrefix_iff {op : Byte} {bytes rest : List Byte} {i : Instr}
    (h : decode (op :: bytes) = .ok (i, rest)) : i = .cbPrefix ↔ op = 0xCB := by
  constructor
  · rintro rfl
    exact (List.cons.inj (eq_encode_append_of_decode h)).1
  · rintro rfl
    exact eq_of_decode_of_encode h rfl

/-- Settles O5: an excluded term is encoded as its own byte, and that byte decodes to it. -/
theorem noInstructionBytes : Obligations.NoInstructionBytes := by
  intro op bytes rest i h
  have hunlisted : i.unlisted = true ↔ op ∈ unlistedRows.map Prod.fst :=
    i.unlisted_iff.trans (exists_mem_unlistedRows_iff h)
  have hprefix : i.excludedPrefix = true ↔ op = 0xCB := i.excludedPrefix_iff.trans (eq_cbPrefix_iff h)
  refine ⟨hunlisted, hprefix, ?_⟩
  rw [i.wellFormed_eq_false_iff, hprefix, hunlisted]
  exact List.mem_cons.symm

/-- Executing an unlisted byte is the fault `IllegalOpcode` with the byte and its address (R417). -/
theorem Machine.exec_of_mem_unlistedRows {op : Byte} {i : Instr} (h : (op, i) ∈ unlistedRows) (s : State) :
    exec i s = .fault (.illegalOpcode op s.pc) := by
  simp only [unlistedRows, List.mem_cons, List.not_mem_nil, Prod.mk.injEq, or_false] at h
  rcases h with h | h | h | h | h | h | h | h | h | h | h <;> obtain ⟨rfl, rfl⟩ := h <;> rfl

/-- Settles O54: an unlisted byte is the encoding of its row, and the meaning of each row is the fault. -/
theorem unlistedBytesFault : Obligations.UnlistedBytesFault :=
  ⟨rfl, fun _ _ h => ⟨decode_of_encode (encode_of_mem_unlistedRows h), Machine.exec_of_mem_unlistedRows h⟩⟩

/-- Settles O55. -/
theorem prefixRefused : Obligations.PrefixRefused :=
  ⟨decode_of_encode (i := .cbPrefix) rfl, fun _ => rfl⟩

/-! ### The regular groups of the map -/

/-- Settles O1: each word is the encoding of its instruction. -/
theorem sampleWordsDecode : Obligations.SampleWordsDecode := fun t =>
  ⟨decode_encode_append (.ldHlD16 0xC000) t, decode_encode_append (.ldAtIoA8A 0x80) t,
    decode_encode_append .addAB t, decode_encode_append .popAf t, decode_encode_append (.jrNzR8 0x10) t,
    decode_encode_append (.callA16 0x8000) t, decode_encode_append .rst38 t, decode_encode_append .daa t,
    decode_encode_append (.addSpR8 0x02) t, decode_encode_append (.andD8 0x0F) t, decode_encode_append .halt t⟩

theorem encode_ldOrHalt : ∀ y z : Fin 8,
    encode (Instr.ldOrHalt (operandTable y) (operandTable z)) = [BitVec.ofNat 8 (64 + 8 * y + z)] := by decide

theorem encode_alu_operandTable : ∀ y z : Fin 8,
    encode (Instr.alu (aluTable y) (operandTable z)) = [BitVec.ofNat 8 (128 + 8 * y + z)] := by decide

theorem encode_alu_d8 (y : Fin 8) (v : Byte) :
    encode (Instr.alu (aluTable y) (.d8 v)) = [BitVec.ofNat 8 (192 + 8 * y + 6), v] := by
  fin_cases y <;> rfl

/-- Settles O3: each byte of the quadrants is the encoding of the instruction at its row and column. -/
theorem quadrantsDecode : Obligations.QuadrantsDecode := fun y z v rest =>
  ⟨decode_of_encode (encode_ldOrHalt y z) rest, decode_of_encode (encode_alu_operandTable y z) rest,
    decode_of_encode (encode_alu_d8 y v) rest⟩

section
variable (p : Fin 4) (y : Fin 8) (r : Reg8) (v : Byte) (w : Word)

theorem encode_ldPairD16 : encode (Instr.ldPairD16 (pairTable p) w) =
    [BitVec.ofNat 8 (16 * p + 1), lowByte w, highByte w] := by fin_cases p <;> rfl

theorem encode_incPair : encode (Instr.incPair (pairTable p)) = [BitVec.ofNat 8 (16 * p + 3)] := by
  fin_cases p <;> rfl

theorem encode_addHlPair : encode (Instr.addHlPair (pairTable p)) = [BitVec.ofNat 8 (16 * p + 9)] := by
  fin_cases p <;> rfl

theorem encode_decPair : encode (Instr.decPair (pairTable p)) = [BitVec.ofNat 8 (16 * p + 11)] := by
  fin_cases p <;> rfl

theorem encode_jrCond : encode (Instr.jrCond (condTable p) v) = [BitVec.ofNat 8 (32 + 8 * p), v] := by
  fin_cases p <;> rfl

theorem encode_retCond : encode (Instr.retCond (condTable p)) = [BitVec.ofNat 8 (192 + 8 * p)] := by
  fin_cases p <;> rfl

theorem encode_jpCond : encode (Instr.jpCond (condTable p) w) =
    [BitVec.ofNat 8 (194 + 8 * p), lowByte w, highByte w] := by fin_cases p <;> rfl

theorem encode_callCond : encode (Instr.callCond (condTable p) w) =
    [BitVec.ofNat 8 (196 + 8 * p), lowByte w, highByte w] := by fin_cases p <;> rfl

theorem encode_popStack : encode (Instr.popStack (stackTable p)) = [BitVec.ofNat 8 (193 + 16 * p)] := by
  fin_cases p <;> rfl

theorem encode_pushStack : encode (Instr.pushStack (stackTable p)) = [BitVec.ofNat 8 (197 + 16 * p)] := by
  fin_cases p <;> rfl

theorem encode_rst : encode (Instr.rst y) = [BitVec.ofNat 8 (199 + 8 * y)] := by fin_cases y <;> rfl

variable {y r} (h : operandTable y = .reg r)
include h

theorem encode_incReg8 : encode (Instr.incReg8 r) = [BitVec.ofNat 8 (8 * y + 4)] := by
  cases r <;> revert y <;> decide

theorem encode_decReg8 : encode (Instr.decReg8 r) = [BitVec.ofNat 8 (8 * y + 5)] := by
  cases r <;> revert y <;> decide

theorem encode_ldRegD8 : encode (Instr.ldRegD8 r v) = [BitVec.ofNat 8 (8 * y + 6), v] := by
  cases r <;> exact congrArg (fun op => [op, v]) (by revert y; decide)

end

/-- Settles O4: each byte of the columns is the encoding of the instruction at its place, with its operand after it. -/
theorem regularColumnsDecode : Obligations.RegularColumnsDecode := by
  intro p y r lo hi v rest w
  have hw : w = joinBytes hi lo := Machine.ofNat_bytes hi lo
  have dec3 : ∀ {op : Byte} {i : Instr}, encode i = [op, lowByte w, highByte w] →
      decode (op :: lo :: hi :: rest) = .ok (i, rest) := by
    intro op i h
    rw [hw, Machine.lowByte_joinBytes, Machine.highByte_joinBytes] at h
    exact decode_of_encode h rest
  exact ⟨dec3 (encode_ldPairD16 p _), decode_of_encode (encode_incPair p) rest,
    decode_of_encode (encode_addHlPair p) rest, decode_of_encode (encode_decPair p) rest,
    fun h => ⟨decode_of_encode (encode_incReg8 h) rest, decode_of_encode (encode_decReg8 h) rest,
      decode_of_encode (encode_ldRegD8 v h) rest⟩,
    decode_of_encode (encode_jrCond p v) rest, decode_of_encode (encode_retCond p) rest,
    dec3 (encode_jpCond p _), dec3 (encode_callCond p _), decode_of_encode (encode_popStack p) rest,
    decode_of_encode (encode_pushStack p) rest, decode_of_encode (encode_rst y) rest⟩

end Sys2Proof
end

section
/-! PROOF. The statements on single loads, stores and stack operations (O21 to O33, but for O26): one lemma for each
shared operation says what it answers, and each statement reads it off at its instructions. -/

namespace Sys2Proof.Machine

/-! ### The bus -/

/-- An access goes to the platform's own bus but for the IE and IF of the Game Boy (R72, R507). -/
theorem State.onPlatform_iff (s : State) (a : Word) :
    s.onPlatform a = true ↔ s.config.bus = .platform ∧
      ¬ ((s.config.irq = .gameBoy ∨ s.config.irq = .gameBoyFlat) ∧ (a = 0xFF0F ∨ a = 0xFFFF)) := by
  unfold onPlatform isIrqRegister
  cases s.config.bus <;> cases s.config.irq <;> simp [ieAddress, ifAddress, and_comm]

/-- Settles O21: the two accesses change the fields that `Laws/State.lean` gives, by cases on who answers them. -/
theorem busInstances : Obligations.BusInstances := by
  intro s a v r t
  refine ⟨s.onPlatform_iff a, rfl, rfl, rfl, fun h => ?platform, fun h => ?flat, storedNothing_of_mem rfl rfl,
    storedByte_of_memWrite rfl rfl⟩
  case platform => simp [r, t, h, State.peek]
  case flat => simp [r, t, h]

/-! ### Registers -/

/-- `loadReg` writes one register and moves pc (R130). -/
theorem loadReg_next (s : State) (dst : Reg8) (v : Byte) (len : Word) :
    ∃ t, loadReg s dst v len = .next t ∧ (∀ r, t.reg r = if r = dst then v else s.reg r) ∧
      t = { s with
        a := t.a, b := t.b, c := t.c, d := t.d, e := t.e, h := t.h, l := t.l, pc := s.pc + len } :=
  ⟨_, rfl, by simp, by cases dst <;> rfl⟩

/-- Settles O22. -/
theorem loadRegister : Obligations.LoadRegister := by
  intro dst src v s
  rw [exec_ldRegReg, exec_ldRegD8]
  exact ⟨loadReg_next s dst (s.reg src) 1, loadReg_next s dst v 2⟩

/-- A register written with its own value is unchanged. -/
@[simp] theorem State.setReg_reg (s : State) (r : Reg8) : s.setReg r (s.reg r) = s := by
  cases r <;> rfl

/-- Settles O23: a self-load writes a register with its own value. -/
theorem selfLoadsAreNops : Obligations.SelfLoadsAreNops := by
  intro r s
  refine ⟨rfl, ?_⟩
  rw [exec_ldRegReg, loadReg, State.setReg_reg]
  rfl

/-- Settles O29. -/
theorem loadPair : Obligations.LoadPair := by
  intro v s hi lo
  have hhi : hi = highByte v := ofNat_high v
  have hlo : lo = lowByte v := ofNat_low v
  rw [hhi, hlo, ofNat_bytes]
  exact ⟨rfl, rfl, rfl, rfl, rfl⟩

/-! ### Loads from memory and stores to it -/

/-- `loadByte` makes one read, gives the register what it returns, and moves pc (R130). -/
theorem loadByte_next (s : State) (dst : Reg8) (addr len : Word) :
    ∃ t, loadByte s dst addr len = .next t ∧ (∀ r, t.reg r = if r = dst then (s.memRead addr).1 else s.reg r) ∧
      StoredNothing s t ∧
      t = { s with
        a := t.a, b := t.b, c := t.c, d := t.d, e := t.e, h := t.h, l := t.l, pc := s.pc + len
        bus := (s.memRead addr).2.bus
        busLog := s.busLog.map (fun l => l ++ [.read addr (s.memRead addr).1]) } :=
  ⟨_, rfl, by simp, storedNothing_of_mem (by simp) (by simp), by cases dst <;> rfl⟩

/-- `storeByte` makes one write and moves pc (R130). -/
theorem storeByte_next (s : State) (addr : Word) (v : Byte) (len : Word) :
    ∃ t, storeByte s addr v len = .next t ∧ StoredByte s t addr v ∧
      t = { s with
        pc := s.pc + len
        mem := t.mem
        bus := (s.memWrite addr v).bus
        busLog := s.busLog.map (fun l => l ++ [.write addr v]) } :=
  ⟨_, rfl, storedByte_of_memWrite rfl rfl, rfl⟩

/-- Settles O24. -/
theorem loadFromMemory : Obligations.LoadFromMemory := by
  intro dst a8 a16 s io loads
  have hio : io = ioAddress := funext ofNat_ioAddress
  rw [hio]
  refine ⟨?_, loadByte_next s .a s.bc 1, loadByte_next s .a s.de 1, loadByte_next s .a a16 3,
    loadByte_next s .a (ioAddress a8) 2, loadByte_next s .a (ioAddress s.c) 1⟩
  simp only [loads, exec_ldRegAtHl]
  exact loadByte_next s dst s.hl 1

/-- Settles O25. -/
theorem storeToMemory : Obligations.StoreToMemory := by
  intro src v a8 a16 s io writes
  have hio : io = ioAddress := funext ofNat_ioAddress
  rw [hio]
  refine ⟨?_, storeByte_next s s.hl v 2, storeByte_next s s.bc s.a 1, storeByte_next s s.de s.a 1,
    storeByte_next s a16 s.a 3, storeByte_next s (ioAddress a8) s.a 2, storeByte_next s (ioAddress s.c) s.a 1⟩
  simp only [writes, exec_ldAtHlReg]
  exact storeByte_next s s.hl (s.reg src) 1

/-- 0xFF:o is the address in the I/O page at the offset o (R74). -/
theorem joinBytes_0xFF (o : Byte) : joinBytes 0xFF o = ioAddress o := by
  apply BitVec.eq_of_toNat_eq
  rw [joinBytes_toNat, ioAddress_toNat]
  rfl

/-- Settles O27: every access of these instructions is a `loadByte` or a `storeByte` at 0xFF00 plus the offset. -/
theorem ioPageAccess : Obligations.IoPageAccess := by
  intro o rest s addr sc loads writes
  have haddr : addr = ioAddress o := ofNat_ioAddress o
  have inPage : addr.toNat = 0xFF00 + o.toNat := haddr ▸ ioAddress_toNat o
  have hjoin : joinBytes 0xFF o = addr := (joinBytes_0xFF o).trans haddr.symm
  have storesAt : ∀ {i : Instr} {x len : Word} (s : State),
      exec i s = storeByte s x s.a len → x = addr → writes i s := by
    rintro i x len s h rfl
    exact ⟨_, h, storedByte_of_memWrite rfl rfl⟩
  have loadsAt : ∀ {i : Instr} {x len : Word} (s : State),
      exec i s = loadByte s .a x len → x = addr → loads i s := by
    rintro i x len s h rfl
    exact ⟨_, h, rfl⟩
  exact ⟨Laws.RoundTrip.ldAtIoA8A o rest, Laws.RoundTrip.ldAAtIoA8 o rest, Laws.RoundTrip.ldAtIoCA rest,
    Laws.RoundTrip.ldAAtIoC rest, inPage, inPage ▸ Nat.le_add_right _ _,
    storesAt s rfl haddr.symm, loadsAt s rfl haddr.symm, storesAt sc rfl haddr.symm, loadsAt sc rfl haddr.symm,
    storesAt s rfl rfl, loadsAt s rfl rfl, storesAt _ rfl hjoin, loadsAt _ rfl hjoin,
    storesAt _ rfl hjoin, loadsAt _ rfl hjoin, storesAt _ rfl hjoin, loadsAt _ rfl hjoin⟩

theorem inc16_toNat (v : Word) : (inc16 v).toNat = (v.toNat + 1) % 65536 := BitVec.toNat_add v 1

theorem dec16_toNat (v : Word) : (dec16 v).toNat = (v.toNat + 65535) % 65536 := by
  rw [dec16, BitVec.toNat_sub, Nat.add_comm]
  rfl

/-- Settles O28: HL is read for the access before it takes its new value. -/
theorem loadStoreStepHl : Obligations.LoadStoreStepHl := by
  intro s loads writes
  have loadsThen : ∀ {i : Instr} {hl : Word} {n : Nat},
      exec i s = loadAThenStepHl s hl → hl.toNat = n % 65536 → loads i n := fun h hn =>
    ⟨_, h, (congrArg BitVec.toNat (joinBytes_high_low _)).trans hn, storedNothing_of_mem rfl rfl, rfl⟩
  have writesThen : ∀ {i : Instr} {hl : Word} {n : Nat},
      exec i s = storeAThenStepHl s hl → hl.toNat = n % 65536 → writes i n := fun h hn =>
    ⟨_, h, storedByte_of_memWrite rfl rfl, (congrArg BitVec.toNat (joinBytes_high_low _)).trans hn, rfl⟩
  exact ⟨loadsThen rfl (inc16_toNat _), loadsThen rfl (dec16_toNat _), writesThen rfl (inc16_toNat _),
    writesThen rfl (dec16_toNat _)⟩

/-- Two bus writes, the low byte at a and then the high byte at a + 1, store a word (R226). -/
theorem storedWord_of_memWrite_memWrite {s t : State} {a v : Word}
    (hm : t.mem = ((s.memWrite a (lowByte v)).memWrite (a + 1) (highByte v)).mem) (hc : t.config = s.config) :
    StoredWord s t a v := by
  have hne : a ≠ a + 1 := by bv_omega
  rw [storedWord_iff]
  intro b hb
  have hb' : (s.memWrite a (lowByte v)).onPlatform b = false := hb
  rw [State.peek_congr_off (s := (s.memWrite a (lowByte v)).memWrite (a + 1) (highByte v)) hb hm hc,
    State.peek_memWrite hb', State.peek_memWrite hb, State.latched_memWrite]
  by_cases h0 : b = a
  · subst h0
    rw [if_neg hne, if_pos rfl, if_pos rfl]
  · rw [if_neg h0, if_neg h0]
    split
    · next h1 => rw [h1]
    · rfl

/-- Two accesses added to the record one after the other (log 4). -/
theorem log_append_append (log : Option (List BusAccess)) (x y : BusAccess) :
    (log.map (fun l => l ++ [x])).map (fun l => l ++ [y]) = log.map (fun l => l ++ [x, y]) := by
  cases log <;> simp

/-- Settles O30. -/
theorem storeStackPointer : Obligations.StoreStackPointer := fun _ _ =>
  ⟨_, rfl, storedWord_of_memWrite_memWrite rfl rfl, by rw [← log_append_append]; rfl⟩

/-! ### The stack -/

/-- PUSH16 stores the word at the new SP by two bus writes, and changes SP, memory, the platform's own bus and the
record alone (R221). -/
theorem State.exists_push16_eq (s : State) (v : Word) :
    ∃ t, s.push16 v = t ∧ StoredWord s t (s.sp - 2) v ∧
      t = { s with
        sp := s.sp - 2
        mem := t.mem
        bus := ((s.memWrite (s.sp - 1) (highByte v)).memWrite (s.sp - 2) (lowByte v)).bus
        busLog := s.busLog.map (fun l =>
          l ++ [.write (s.sp - 1) (highByte v), .write (s.sp - 2) (lowByte v)]) } := by
  have hbus : (s.push16 v).bus = ((s.memWrite (s.sp - 1) (highByte v)).memWrite (s.sp - 2) (lowByte v)).bus := by
    rw [push16_writes]
  exact ⟨_, rfl, storedWord_of_push16 rfl (s.config_push16 v), hbus ▸ s.push16_eq v⟩

/-- POP16 in the terms of the two reads (R221). -/
theorem State.pop16_eq_readWord (s : State) :
    s.pop16 = ((s.readWord s.sp).1,
      { s with sp := s.sp + 2, bus := (s.readWord s.sp).2.bus, busLog := (s.readWord s.sp).2.busLog }) :=
  s.pop16_readWord

/-- The pair that a POP writes takes the value, but for the low nibble of F; the others keep theirs (R36, R233). -/
theorem State.stackPair_setStackPair (s : State) (r q : StackReg) (v : Word) :
    (s.setStackPair r v).stackPair q =
      if q = r then (if q = .af then v &&& 0xFFF0 else v) else s.stackPair q := by
  cases r with
  | bc => cases q with
    | bc => exact s.bc_setBc v
    | de | hl | af => rfl
  | de => cases q with
    | de => exact s.de_setDe v
    | bc | hl | af => rfl
  | hl => cases q with
    | hl => exact s.hl_setHl v
    | bc | de | af => rfl
  | af => cases q with
    | af => exact s.af_setAf v
    | bc | de | hl => rfl

/-- A pair written with its own value leaves the state as it is, where the low nibble of F is 0 (R36). -/
theorem State.setStackPair_stackPair {s : State} (h : s.f &&& 0x0F = 0) (r : StackReg) :
    s.setStackPair r (s.stackPair r) = s := by
  have mask : ∀ f : Byte, f &&& 0x0F = 0 → f &&& 0xF0 = f := by decide +kernel
  cases r <;> apply State.ext <;>
    simp [setStackPair, stackPair, bc, de, hl, af]
  exact mask s.f h

/-- Where a word has been stored in plain bytes just below where SP was, POP16 gives it back and SP with it, and changes
nothing else but the record (R221). -/
theorem State.pop16_of_storedWord {s t : State} {v : Word} (hs : s.stackIsPlain) (h : StoredWord s t (s.sp - 2) v)
    (hc : t.config = s.config) (hsp : t.sp = s.sp - 2) :
    ∃ log, t.pop16 = (v, { t with sp := s.sp, busLog := log }) := by
  obtain ⟨h1, h2, hf⟩ := hs
  have hnext : s.sp - 2 + 1 = s.sp - 1 := by bv_omega
  have hback : s.sp - 2 + 2 = s.sp := by bv_omega
  have hread : (t.readWord (s.sp - 2)).1 = v :=
    readWord_of_storedWord h hc h2 (hnext ▸ h1) fun hi => ⟨(hf hi).2, hnext ▸ (hf hi).1⟩
  have hoff := readWord_off (s := t) (a := s.sp - 2) ((onPlatform_congr hc _).trans h2)
    ((onPlatform_congr hc _).trans (hnext ▸ h1))
  have hbus : (t.readWord (s.sp - 2)).2.bus = t.bus := by rw [hoff]
  exact ⟨_, by rw [pop16_eq_readWord, hsp, hread, hbus, hback]⟩

/-- PUSH16 to plain bytes does not reach the platform's own bus, and POP16, wherever pc has gone, gives the word
back (R221). -/
theorem State.exists_push16_pop16 {s : State} (hs : s.stackIsPlain) (v : Word) :
    ∃ t, s.push16 v = t ∧ t = { s with sp := s.sp - 2, mem := t.mem, busLog := t.busLog } ∧
      ∀ pc, ∃ u, (t.jump pc).pop16 = (v, u) ∧
        u = { s with pc := pc, mem := t.mem, busLog := u.busLog } := by
  have hbus : (s.push16 v).bus = s.bus := by
    obtain ⟨h1, h2, -⟩ := hs
    have h2' : (s.memWrite (s.sp - 1) (highByte v)).onPlatform (s.sp - 2) = false := h2
    rw [push16_writes]
    simp only [bus_memWrite, h1, h2', Bool.false_eq_true, if_false]
  have hpush := s.push16_eq v
  rw [hbus] at hpush
  have hstored : StoredWord s (s.push16 v) (s.sp - 2) v := storedWord_of_push16 rfl (s.config_push16 v)
  generalize s.push16 v = t at hpush hstored
  have hframe : t = { s with sp := s.sp - 2, mem := t.mem, busLog := t.busLog } := by rw [hpush]
  refine ⟨t, rfl, hframe, fun pc => ?_⟩
  have hc : t.config = s.config := by rw [hframe]
  have hsp : t.sp = s.sp - 2 := by rw [hframe]
  obtain ⟨log, hpop⟩ := pop16_of_storedWord (t := t.jump pc) hs hstored hc hsp
  exact ⟨_, hpop, by rw [hframe]; rfl⟩

/-- Settles O33: the word popped is the word pushed, and a pair written with its own value is unchanged. -/
theorem popInvertsPush : Obligations.PopInvertsPush := by
  intro r s hs hf
  obtain ⟨t, hpush, ht, hpop⟩ := State.exists_push16_pop16 hs (s.stackPair r)
  obtain ⟨u, hu, hue⟩ := hpop (s.pc + 1)
  have hpc : t.pc = s.pc := by rw [ht]
  have hadv : (t.advance 1).pop16 = (s.stackPair r, u) := by rw [State.advance, hpc]; exact hu
  have hpair : u.stackPair r = s.stackPair r := by rw [hue]; cases r <;> rfl
  have hf' : u.f &&& 0x0F = 0 := by rw [hue]; exact hf
  have hpcs : s.pc + 1 + 1 = s.pc + 2 := by bv_omega
  refine ⟨t.advance 1, u.advance 1, ?push, ?pop, ?state⟩
  case push => rw [exec_pushStack, Machine.pushPair, hpush]
  case pop =>
    rw [exec_popStack, Machine.popPair, hadv]
    dsimp only
    rw [← hpair, State.setStackPair_stackPair hf']
  case state =>
    rw [← hpcs]
    exact congrArg (fun x : State => x.advance 1) hue

end Sys2Proof.Machine

namespace Sys2Proof

open Machine

/-- Settles O31. -/
theorem pushPair : Obligations.PushPair := by
  intro r s
  obtain ⟨t, hpush, hstored, hframe⟩ := s.exists_push16_eq (s.stackPair r)
  rw [exec_pushStack, Machine.pushPair, hpush]
  exact ⟨_, rfl, hstored, congrArg (fun u : State => u.advance 1) hframe⟩

/-- Settles O32. -/
theorem popPair : Obligations.PopPair := by
  intro r s w
  rw [exec_popStack, Machine.popPair, s.pop16_eq_readWord]
  refine ⟨_, rfl, fun q => State.stackPair_setStackPair _ r q w.1, storedNothing_of_mem (by simp) (by simp), ?_⟩
  cases r <;> rfl

end Sys2Proof
end

section
/-! PROOF. The statements on arithmetic, logic, rotates and decimal adjust (O34 to O45). -/

namespace Sys2Proof.Machine

/-! ### The flags an instruction leaves -/

/-- Z, N, H and C of a state, and the low nibble of its F, are as given (R36). -/
def State.hasFlags (t : State) (z n h c : Bool) : Prop :=
  t.flagZ = z ∧ t.flagN = n ∧ t.flagH = h ∧ t.flagC = c ∧ t.f &&& 0x0F = 0

theorem State.hasFlags_setFlags (s : State) (z n h c : Bool) (len : Word) :
    ((s.setFlags z n h c).advance len).hasFlags z n h c :=
  ⟨s.flagZ_setFlags z n h c, s.flagN_setFlags z n h c, s.flagH_setFlags z n h c, s.flagC_setFlags z n h c,
    mask_low _⟩

/-! ### 16-bit arithmetic -/

/-- Settles O34. -/
theorem addToStackPointer : Obligations.AddToStackPointer := by
  intro e s sum flags
  have hsum : sum = addSp s.sp e := (addSp_eq s.sp e).symm
  rw [hsum]
  exact ⟨⟨_, rfl, State.hasFlags_setFlags _ _ _ _ _ _, rfl⟩,
    ⟨_, rfl, State.hasFlags_setFlags _ _ _ _ _ _, joinBytes_high_low _, rfl⟩⟩

/-- INC16 and DEC16 of a pair: one pair changes, and no flag (R345). -/
theorem setPair_advance_moves (s : State) (r : Reg16) {v : Word} {n : Nat}
    (hv : v.toNat = ((s.pair r).toNat + n) % 65536) :
    let t := (s.setPair r v).advance 1
    (∀ q, (t.pair q).toNat = if q = r then ((s.pair q).toNat + n) % 65536 else (s.pair q).toNat) ∧
      t = { s with b := t.b, c := t.c, d := t.d, e := t.e, h := t.h, l := t.l, sp := t.sp, pc := s.pc + 1 } := by
  refine ⟨fun q => ?_, by cases r <;> rfl⟩
  have hpair : ((s.setPair r v).advance 1).pair q = if q = r then v else s.pair q := by
    rw [← State.pair_setPair]
    cases q <;> rfl
  rw [hpair]
  split
  · next h => rw [hv, h]
  · rfl

/-- Settles O39. -/
theorem incDecPair : Obligations.IncDecPair := fun r s =>
  ⟨⟨_, exec_incPair r s, setPair_advance_moves s r (inc16_toNat _)⟩,
    ⟨_, exec_decPair r s, setPair_advance_moves s r (dec16_toNat _)⟩⟩

/-- Settles O40. -/
theorem addPairToHl : Obligations.AddPairToHl := by
  intro r s
  have hsum : (add16 s.hl (s.pair r)).toNat = (s.hl.toNat + (s.pair r).toNat) % 65536 := BitVec.toNat_ofNat _ _
  obtain ⟨hz, hn, hh, hc, hf⟩ := State.hasFlags_setFlags (s.setHl (add16 s.hl (s.pair r))) s.flagZ false
    (add16H s.hl (s.pair r)) (add16C s.hl (s.pair r)) 1
  exact ⟨_, exec_addHlPair r s, (congrArg BitVec.toNat (joinBytes_high_low _)).trans hsum, hz, hn, hh, hc, hf, rfl⟩

/-! ### Accumulator operations -/

/-- The state once the operand has been read differs in the platform's own bus and the record alone (R244). -/
theorem State.afterOperand_eq (s : State) (x : Operand8) :
    s.afterOperand x = { s with bus := (s.afterOperand x).bus, busLog := (s.afterOperand x).busLog } := by
  cases x <;> rfl

/-- Every accumulator operation: A takes the result, but for CP, and F the four flags (R240 to R244). -/
theorem exec_alu_next (op : AluOp) (x : Operand8) (s : State) :
    let r := aluResult s op (s.operand x)
    ∃ t, exec (Instr.alu op x) s = .next t ∧ t.a = (if op = .cp then s.a else r.res) ∧
      t.hasFlags r.z r.n r.h r.c ∧
      t = { s with
        a := t.a, f := t.f, pc := s.pc + operandLength x
        bus := (s.afterOperand x).bus
        busLog := (s.afterOperand x).busLog } := by
  intro r
  rw [exec_alu, s.afterOperand_eq]
  split
  · exact ⟨_, rfl, rfl, State.hasFlags_setFlags _ _ _ _ _ _, rfl⟩
  · exact ⟨_, rfl, rfl, State.hasFlags_setFlags _ _ _ _ _ _, rfl⟩

/-- A byte is 0 exactly where its value is (R240). -/
theorem decide_eq_zero (v : Byte) : decide (v = 0) = decide (v.toNat = 0) :=
  decide_eq_decide.mpr (BitVec.toNat_inj (y := 0#8)).symm

/-- Settles O35: ADC is ADD with the carry of F, ADD with none. -/
theorem addOperations : Obligations.AddOperations := by
  intro withCarry x s op v cin
  have hr : aluResult s op v = add8 s.a v (withCarry && s.flagC) := by cases withCarry <;> rfl
  have hne : op ≠ .cp := by cases withCarry <;> exact nofun
  have hres : (add8 s.a v (withCarry && s.flagC)).res.toNat = (s.a.toNat + v.toNat + cin) % 256 := add8_toNat _ _ _
  obtain ⟨t, ht, ha, ⟨hz, hn, hh, hc, hf⟩, hframe⟩ := exec_alu_next op x s
  rw [if_neg hne] at ha
  rw [hr] at ha hz hn hh hc
  refine ⟨t, ht, ha ▸ hres, ?_, hn, hh, hc, hf, hframe⟩
  rw [hz, ← hres]
  exact decide_eq_zero _

/-- Settles O36: SBC is SUB with the carry of F, and CP is SUB without its result. -/
theorem subtractOperations : Obligations.SubtractOperations := by
  intro op x s hop v cin diff
  have hr : aluResult s op v = sub8 s.a v (decide (op = .sbc) && s.flagC) := by
    rcases hop with rfl | rfl | rfl <;> rfl
  have hres : ((sub8 s.a v (decide (op = .sbc) && s.flagC)).res.toNat : Int) = diff % 256 := sub8_toNat _ _ _
  obtain ⟨t, ht, ha, ⟨hz, hn, hh, hc, hf⟩, hframe⟩ := exec_alu_next op x s
  rw [hr] at ha hz hn hh hc
  refine ⟨t, ht, fun h => ?_, fun h => ?_, ?_, hn, ?_, ?_, hf, hframe⟩
  · rw [ha, if_neg h, hres]
  · rw [ha, if_pos h]
  · rw [hz, ← hres]
    exact (decide_eq_zero _).trans (decide_eq_decide.mpr Int.natCast_eq_zero.symm)
  · rw [hh]
    exact decide_eq_decide.mpr (by omega)
  · rw [hc]
    exact decide_eq_decide.mpr (by omega)

/-- Settles O37. -/
theorem logicOperations : Obligations.LogicOperations := by
  intro op x s hop
  obtain ⟨t, ht, ha, ⟨hz, hn, hh, hc, hf⟩, hframe⟩ := exec_alu_next op x s
  rcases hop with rfl | rfl | rfl
  · exact ⟨t, ht, fun i => ha ▸ BitVec.getLsbD_and, ha ▸ hz, hn, hh, hc, hf, hframe⟩
  · exact ⟨t, ht, fun i => ha ▸ BitVec.getLsbD_xor, ha ▸ hz, hn, hh, hc, hf, hframe⟩
  · exact ⟨t, ht, fun i => ha ▸ BitVec.getLsbD_or, ha ▸ hz, hn, hh, hc, hf, hframe⟩

/-! ### INC and DEC -/

/-- INC8, or DEC8 where `dec` (R243). -/
def step8 (dec : Bool) (v : Byte) (c : Bool) : AluResult := if dec then dec8 v c else inc8 v c

theorem step8_res (dec : Bool) (v : Byte) (c : Bool) :
    (step8 dec v c).res.toNat = (if dec then v.toNat + 255 else v.toNat + 1) % 256 := by
  cases dec
  · exact BitVec.toNat_add v 1
  · exact (BitVec.toNat_sub v 1).trans (by rw [Nat.add_comm]; rfl)

theorem hasFlags_step8 (s : State) (dec : Bool) (v : Byte) (c : Bool) (len : Word) :
    let r := step8 dec v c
    ((s.setFlags r.z r.n r.h r.c).advance len).hasFlags (decide (r.res = 0)) dec
      (decide (v.toNat % 16 = if dec then 0 else 15)) c := by
  cases dec <;> exact State.hasFlags_setFlags _ _ _ _ _ _

theorem exec_stepReg8 (dec : Bool) (r : Reg8) (s : State) :
    exec (if dec then Instr.decReg8 r else Instr.incReg8 r) s =
      let v := step8 dec (s.reg r) s.flagC
      .next (((s.setReg r v.res).setFlags v.z v.n v.h v.c).advance 1) := by
  cases dec
  · exact exec_incReg8 r s
  · exact exec_decReg8 r s

theorem exec_stepAtHl (dec : Bool) (s : State) :
    exec (if dec then .decAtHl else .incAtHl) s =
      let v := step8 dec (s.memRead s.hl).1 s.flagC
      .next ((((s.memRead s.hl).2.memWrite s.hl v.res).setFlags v.z v.n v.h v.c).advance 1) := by
  cases dec <;> rfl

/-- Settles O38. -/
theorem incDecByte : Obligations.IncDecByte := by
  intro dec r s flags
  refine ⟨⟨_, exec_stepReg8 dec r s, ⟨?res, ?flags⟩, fun q hq => ?others, ?frame⟩,
    ⟨_, _, exec_stepAtHl dec s, ⟨step8_res _ _ _, hasFlags_step8 _ _ _ _ _⟩, storedByte_of_memWrite rfl rfl, ?memFrame⟩⟩
  case res => simpa using step8_res dec (s.reg r) s.flagC
  case flags =>
    simp only [State.reg_advance, State.reg_setFlags, State.reg_setReg, if_true]
    exact hasFlags_step8 _ _ _ _ _
  case others => simp [hq]
  case frame => cases r <;> rfl
  case memFrame =>
    rw [← log_append_append]
    rfl

/-! ### Rotates and the carry flag -/

/-- A rotate of A: the result, the flags and the frame (R360 to R364). -/
theorem rotateA_next (s : State) {res : Byte} {out : Bool} {bit : Fin 8 → Bool}
    (hbit : ∀ k : Fin 8, res.getLsbD k = bit k) :
    ∃ t, rotateA s res out = .next t ∧ (∀ k : Fin 8, t.a.getLsbD k = bit k) ∧
      t.flagZ = false ∧ t.flagN = false ∧ t.flagH = false ∧ t.flagC = out ∧ t.f &&& 0x0F = 0 ∧
      t = { s with a := t.a, f := t.f, pc := s.pc + 1 } := by
  obtain ⟨hz, hn, hh, hc, hf⟩ := State.hasFlags_setFlags (s.setReg .a res) false false false out 1
  exact ⟨_, rfl, hbit, hz, hn, hh, hc, hf, rfl⟩

theorem rotateLeftThrough_bit (a : Byte) (cin : Bool) (k : Fin 8) :
    (rotateLeftThrough a cin).getLsbD k = if k = 0 then cin else a.getLsbD (k - 1 : Nat) := by
  have happ : (rotateLeftThrough a cin).getLsbD k =
      if (k : Nat) < 1 then (BitVec.ofBool cin).getLsbD k else (a.extractLsb' 0 7).getLsbD (k - 1) :=
    BitVec.getLsbD_append
  rw [happ]
  fin_cases k <;> simp

theorem rotateRightThrough_bit (a : Byte) (cin : Bool) (k : Fin 8) :
    (rotateRightThrough a cin).getLsbD k = if k = 7 then cin else a.getLsbD (k + 1 : Nat) := by
  have happ : (rotateRightThrough a cin).getLsbD k =
      if (k : Nat) < 7 then (a.extractLsb' 1 7).getLsbD k else (BitVec.ofBool cin).getLsbD (k - 7) :=
    BitVec.getLsbD_append
  rw [happ]
  fin_cases k <;> simp

/-- RLCA rotates as RLA does where the carry is the bit rotated out (R361, R363). -/
theorem rotateLeft_bit (a : Byte) (k : Fin 8) : (rotateLeft a).getLsbD k = a.getLsbD ((k + 7 : Nat) % 8) :=
  (rotateLeftThrough_bit a (a.getLsbD 7) k).trans (by fin_cases k <;> rfl)

/-- RRCA rotates as RRA does where the carry is the bit rotated out (R362, R364). -/
theorem rotateRight_bit (a : Byte) (k : Fin 8) : (rotateRight a).getLsbD k = a.getLsbD ((k + 1 : Nat) % 8) :=
  (rotateRightThrough_bit a (a.getLsbD 0) k).trans (by fin_cases k <;> rfl)

/-- Settles O41. -/
theorem rotateAccumulator : Obligations.RotateAccumulator := fun s =>
  ⟨rotateA_next s (rotateLeft_bit s.a), rotateA_next s (rotateRight_bit s.a),
    rotateA_next s (rotateLeftThrough_bit s.a s.flagC), rotateA_next s (rotateRightThrough_bit s.a s.flagC)⟩

/-- Settles O45. -/
theorem complementAndCarry : Obligations.ComplementAndCarry := by
  intro s
  have hnot : (s.a ^^^ 0xFF).toNat = 255 - s.a.toNat := by
    rw [show s.a ^^^ 0xFF = ~~~s.a from BitVec.xor_allOnes, BitVec.toNat_not]
  obtain ⟨hz, hn, hh, hc, hf⟩ := State.hasFlags_setFlags (s.setReg .a (s.a ^^^ 0xFF)) s.flagZ true true s.flagC 1
  obtain ⟨sz, sn, sh, sc, sf⟩ := State.hasFlags_setFlags s s.flagZ false false true 1
  obtain ⟨cz, cn, ch, cc, cf⟩ := State.hasFlags_setFlags s s.flagZ false false (!s.flagC) 1
  exact ⟨⟨_, rfl, hnot, hz, hn, hh, hc, hf, rfl⟩, ⟨_, rfl, sz, sn, sh, sc, sf, rfl⟩, ⟨_, rfl, cz, cn, ch, cc, cf, rfl⟩⟩

/-! ### Decimal adjust -/

/-- DAA corrects the units: the low digit carried or borrowed, or an addition left it above 9 (R365). -/
def daaLow (a : Byte) (n h : Bool) : Bool := h || (!n && decide (9 < a.toNat % 16))

/-- DAA corrects the tens (R365). -/
def daaHigh (a : Byte) (n c : Bool) : Bool := c || (!n && decide (0x99 < a.toNat))

/-- The number that DAA adds or, after a subtraction, takes off (R365). -/
def daaAdjust (a : Byte) (n h c : Bool) : Nat :=
  (if daaLow a n h then 0x06 else 0) + (if daaHigh a n c then 0x60 else 0)

/-- DAA's result: the two corrections touch different bits, so their OR is their sum (R365). -/
theorem daa_res (a : Byte) (n h c : Bool) : (daa a n h c).res =
    if n then a - BitVec.ofNat 8 (daaAdjust a n h c) else a + BitVec.ofNat 8 (daaAdjust a n h c) := by
  have hor : ∀ low high : Bool, ((if low then (0x06 : Byte) else 0) ||| (if high then 0x60 else 0)) =
      BitVec.ofNat 8 ((if low then 0x06 else 0) + (if high then 0x60 else 0)) := by decide
  rw [daaAdjust, ← hor]
  rfl

theorem daaAdjust_le (a : Byte) (n h c : Bool) : daaAdjust a n h c ≤ 0x66 := by
  unfold daaAdjust
  split <;> split <;> decide

/-- DAA's result as a number (R365). -/
theorem daa_toNat (a : Byte) (n h c : Bool) : (daa a n h c).res.toNat =
    (if n then a.toNat + 256 - daaAdjust a n h c else a.toNat + daaAdjust a n h c) % 256 := by
  have hle := daaAdjust_le a n h c
  rw [daa_res]
  split
  · rw [BitVec.toNat_sub, BitVec.toNat_ofNat]
    omega
  · rw [BitVec.toNat_add, BitVec.toNat_ofNat]
    omega

/-- DAA: the result, the flags and the frame (R365). -/
theorem exec_daa_next (s : State) :
    let r := daa s.a s.flagN s.flagH s.flagC
    ∃ t, exec .daa s = .next t ∧ t.a = r.res ∧
      t.hasFlags (decide (r.res = 0)) s.flagN false (daaHigh s.a s.flagN s.flagC) ∧
      t = { s with a := t.a, f := t.f, pc := s.pc + 1 } :=
  ⟨_, rfl, rfl, State.hasFlags_setFlags _ _ _ _ _ _, rfl⟩

/-- Settles O42. -/
theorem decimalAdjust : Obligations.DecimalAdjust := by
  intro s low high
  have hlow : daaLow s.a s.flagN s.flagH = true ↔ low := by simp [daaLow, low]
  have hhigh : daaHigh s.a s.flagN s.flagC = true ↔ high := by simp [daaHigh, high]
  obtain ⟨t, ht, ha, ⟨hz, hn, hh, hc, hf⟩, hframe⟩ := exec_daa_next s
  refine ⟨t, daaAdjust s.a s.flagN s.flagH s.flagC, ht, ?_, ?_, ?_, ?_, ha ▸ daa_toNat _ _ _ _, ha ▸ hz, hn, hh,
    by rw [hc, hhigh], hf, hframe⟩
  all_goals
    intro hl hh
    simp [daaAdjust, hlow, hhigh, hl, hh]

/-- A packed BCD number as a number: the tens in the high nibble (R365). -/
theorem bcd_toNat {n : Nat} (hn : n < 100) : (bcd n).toNat = 16 * (n / 10) + n % 10 := by
  rw [bcd, BitVec.toNat_ofNat]
  omega

/-- After the addition of two packed BCD numbers, DAA corrects exactly the digits that passed 9 (R365). -/
theorem daa_add8_bcd {x y : Nat} (hx : x < 100) (hy : y < 100) (cin : Bool) :
    let r := add8 (bcd x) (bcd y) cin
    (daa r.res r.n r.h r.c).res = bcd ((x + y + cin.toNat) % 100) ∧
      daaHigh r.res r.n r.c = decide (100 ≤ x + y + cin.toNat) := by
  intro r
  have hX := bcd_toNat hx
  have hY := bcd_toNat hy
  have hres : r.res.toNat = ((bcd x).toNat + (bcd y).toNat + cin.toNat) % 256 := add8_toNat _ _ _
  have hcin := cin.toNat_le
  have hlow : daaLow r.res r.n r.h = decide (9 < x % 10 + y % 10 + cin.toNat) := by
    simp only [daaLow, r, add8, Bool.not_false, Bool.true_and, ← Bool.decide_or, decide_eq_decide]
    rw [BitVec.toNat_ofNat]
    omega
  have hhigh : daaHigh r.res r.n r.c = decide (100 ≤ x + y + cin.toNat) := by
    simp only [daaHigh, r, add8, Bool.not_false, Bool.true_and, ← Bool.decide_or, decide_eq_decide]
    rw [BitVec.toNat_ofNat]
    omega
  refine ⟨BitVec.eq_of_toNat_eq ?_, hhigh⟩
  rw [daa_toNat, daaAdjust, hlow, hhigh, bcd_toNat (Nat.mod_lt _ (by decide)), hres]
  simp only [decide_eq_true_eq, show r.n = false from rfl, Bool.false_eq_true, if_false]
  split <;> split <;> omega

/-- After the subtraction of two packed BCD numbers, DAA corrects exactly the digits that borrowed (R365). -/
theorem daa_sub8_bcd {x y : Nat} (hx : x < 100) (hy : y < 100) (cin : Bool) :
    let r := sub8 (bcd x) (bcd y) cin
    (daa r.res r.n r.h r.c).res = bcd ((x + 200 - y - cin.toNat) % 100) ∧
      daaHigh r.res r.n r.c = decide (x < y + cin.toNat) := by
  intro r
  have hX := bcd_toNat hx
  have hY := bcd_toNat hy
  have hres : (r.res.toNat : Int) = (((bcd x).toNat : Int) - (bcd y).toNat - cin.toNat) % 256 := sub8_toNat _ _ _
  have hcin := cin.toNat_le
  have hlow : daaLow r.res r.n r.h = decide (x % 10 < y % 10 + cin.toNat) := by
    simp only [daaLow, r, sub8, Bool.not_true, Bool.false_and, Bool.or_false, decide_eq_decide]
    omega
  have hhigh : daaHigh r.res r.n r.c = decide (x < y + cin.toNat) := by
    simp only [daaHigh, r, sub8, Bool.not_true, Bool.false_and, Bool.or_false, decide_eq_decide]
    omega
  refine ⟨BitVec.eq_of_toNat_eq ?_, hhigh⟩
  rw [daa_toNat, daaAdjust, hlow, hhigh, bcd_toNat (Nat.mod_lt _ (by decide))]
  simp only [decide_eq_true_eq, show r.n = true from rfl, if_true]
  split <;> split <;> omega

/-- DAA after an accumulator operation works on the operation's result and flags (R365). -/
theorem exec_alu_daa {op : AluOp} {x : Operand8} {s : State} {r : AluResult} (hop : op ≠ .cp)
    (hr : aluResult s op (s.operand x) = r) :
    ∃ t u, exec (Instr.alu op x) s = .next t ∧ exec .daa t = .next u ∧ u.a = (daa r.res r.n r.h r.c).res ∧
      u.flagC = daaHigh r.res r.n r.c := by
  obtain ⟨t, ht, hta, ⟨-, htn, hth, htc, -⟩, -⟩ := exec_alu_next op x s
  obtain ⟨u, hu, hua, ⟨-, -, -, huc, -⟩, -⟩ := exec_daa_next t
  rw [if_neg hop, hr] at hta
  rw [hr] at htn hth htc
  rw [hta, htn, hth, htc] at hua
  rw [hta, htn, htc] at huc
  exact ⟨t, u, ht, hu, hua, huc⟩

/-- Settles O43. -/
theorem decimalAddition : Obligations.DecimalAddition := by
  intro withCarry x y z s hx hy cin
  have hr : aluResult s (if withCarry then .adc else .add) (s.operand z) =
      add8 (bcd x) (bcd y) (withCarry && s.flagC) := by rw [← hx, ← hy]; cases withCarry <;> rfl
  obtain ⟨t, u, ht, hu, hua, huc⟩ := exec_alu_daa (by cases withCarry <;> exact nofun) hr
  obtain ⟨hres, hc⟩ := daa_add8_bcd x.isLt y.isLt (withCarry && s.flagC)
  exact ⟨t, u, ht, hu, hua.trans hres, huc.trans hc⟩

/-- Settles O44. -/
theorem decimalSubtraction : Obligations.DecimalSubtraction := by
  intro withCarry x y z s hx hy cin
  have hr : aluResult s (if withCarry then .sbc else .sub) (s.operand z) =
      sub8 (bcd x) (bcd y) (withCarry && s.flagC) := by rw [← hx, ← hy]; cases withCarry <;> rfl
  obtain ⟨t, u, ht, hu, hua, huc⟩ := exec_alu_daa (by cases withCarry <;> exact nofun) hr
  obtain ⟨hres, hc⟩ := daa_sub8_bcd x.isLt y.isLt (withCarry && s.flagC)
  exact ⟨t, u, ht, hu, hua.trans hres, huc.trans hc⟩

end Sys2Proof.Machine
end

section
/-! PROOF. The statements on control transfers and CPU control (O46 to O53). -/

namespace Sys2Proof.Machine

/-! ### Jumps -/

/-- A jump or a conditional jump changes pc alone (R370, R371). -/
theorem branch_eq (s : State) (cc : Cond) (target len : Word) :
    branch s cc target len = .next { s with pc := if s.holds cc then target else s.pc + len } := by
  unfold branch
  split <;> rfl

/-- Settles O46. -/
theorem jumps : Obligations.Jumps := by
  intro a16 r8 s near z c goes
  have hnear : near = relativeTarget s.pc r8 := (relativeTarget_eq s.pc r8).symm
  have hjp : ∀ cc, goes (Instr.jpCond cc a16) (s.holds cc) a16 (s.pc + 3) := fun cc => by
    simp only [goes, exec_jpCond, branch_eq]
  have hjr : ∀ cc, goes (Instr.jrCond cc r8) (s.holds cc) near (s.pc + 2) := fun cc => by
    simp only [goes, exec_jrCond, branch_eq, hnear]
  refine ⟨rfl, ?_, ?_, hjp .nz, hjp .z, hjp .nc, hjp .c, hjr .nz, hjr .z, hjr .nc, hjr .c⟩
  · rw [ofNat_bytes]
    rfl
  · rw [hnear]
    rfl

/-! ### Calls and returns -/

/-- A call pushes the address of the next instruction and goes to the target (R371). -/
theorem call_next (s : State) (target len : Word) :
    let back := s.pc + len
    ∃ t, call s target len = .next t ∧ StoredWord s t (s.sp - 2) back ∧
      t = { s with
        pc := target
        sp := s.sp - 2
        mem := t.mem
        bus := ((s.memWrite (s.sp - 1) (highByte back)).memWrite (s.sp - 2) (lowByte back)).bus
        busLog := s.busLog.map (fun l =>
          l ++ [.write (s.sp - 1) (highByte back), .write (s.sp - 2) (lowByte back)]) } := by
  intro back
  obtain ⟨t, hpush, hstored, hframe⟩ := s.exists_push16_eq back
  rw [call, hpush]
  exact ⟨_, rfl, hstored, congrArg (fun u : State => u.jump target) hframe⟩

/-- The target of RST is its opcode byte with all bits but 5 to 3 cleared (R109). -/
theorem encode_rst_target (y : Fin 8) : ∃ op : Byte, encode (Instr.rst y) = [op] ∧ (op &&& 0x38).toNat = 8 * y := by
  fin_cases y <;> exact ⟨_, rfl, rfl⟩

/-- Settles O47. -/
theorem calls : Obligations.Calls := by
  intro a16 y s
  have hrst := call_next s (BitVec.ofNat 16 (8 * y)) 1
  rw [← exec_rst] at hrst
  exact ⟨call_next s a16 3, hrst, encode_rst_target y⟩

/-- Settles O48. -/
theorem conditionalCalls : Obligations.ConditionalCalls := by
  intro cc a16 s
  rw [exec_callCond, callIf]
  refine ⟨fun h => if_pos h, fun h => if_neg (by simp [h]), ?_, by cases cc <;> rfl⟩
  split
  · exact ⟨_, rfl⟩
  · exact ⟨_, rfl⟩

/-- A return takes pc from the stack (R371). -/
theorem ret_eq (s : State) : ret s = .next { s with
    pc := (s.readWord s.sp).1
    sp := s.sp + 2
    bus := (s.readWord s.sp).2.bus
    busLog := (s.readWord s.sp).2.busLog } := by
  rw [ret, s.pop16_eq_readWord]
  rfl

/-- Settles O49. -/
theorem returns : Obligations.Returns := by
  intro cc s w back
  refine ⟨ret_eq s, storedNothing_of_mem rfl rfl, ?_⟩
  rw [exec_retCond, retIf, ret_eq]
  split <;> rfl

/-- Settles O50: the word popped is the word pushed. -/
theorem returnInvertsCall : Obligations.ReturnInvertsCall := by
  intro a16 s hs
  obtain ⟨t, hpush, ht, hpop⟩ := State.exists_push16_pop16 hs (s.pc + 3)
  obtain ⟨u, hu, hue⟩ := hpop a16
  refine ⟨t.jump a16, u.jump (s.pc + 3), ?call, ?ret, rfl, congrArg (fun x : State => x.jump (s.pc + 3)) hue⟩
  case call => exact congrArg (fun x : State => Host.Outcome.next (x.jump a16)) hpush
  case ret =>
    show ret (t.jump a16) = _
    rw [ret, hu]

/-- Settles O52. -/
theorem d9AsReturn : Obligations.D9AsReturn := by
  intro s h w back
  refine ⟨?_, storedNothing_of_mem rfl rfl⟩
  show execDiD9 s = _
  rw [execDiD9, h]
  exact congrArg Host.Outcome.next (by rw [s.trapReturn_eq, s.pop16_eq_readWord])

/-! ### CPU control -/

/-- Settles O51. -/
theorem controlInstructions : Obligations.ControlInstructions := by
  intro s
  refine ⟨fun h => ?_, fun h => ?_, rfl, fun h => ?_, rfl⟩
  · show execStop s = _
    rw [execStop, h]
    rfl
  · show execStop s = _
    rw [execStop, h]
    rfl
  · show execDiD9 s = _
    rw [execDiD9, h]
    rfl

/-- Settles O53. -/
theorem haltOrHaltBug : Obligations.HaltOrHaltBug := by
  intro s
  refine ⟨fun h => if_neg ?_, fun hi hr => if_pos ?_⟩
  · rcases h with h | h <;> simp [h]
  · simp [hi, hr]

end Sys2Proof.Machine
end

section
/-! PROOF. The rules over all instructions (O56 to O58): one lemma says of every instruction what it does to the flags,
to memory and the bus, and to the control state, by the groups of the opcode map. -/

namespace Sys2Proof.Machine

/-! ### The flags -/

/-- The flags have changed from s to t as the effects of R37 allow; where all four are kept F is the same byte, and a
zero low nibble stays zero (R36). -/
structure FlagsBy (e : FlagEffects) (s t : State) : Prop where
  z : e.z.allows s.flagZ t.flagZ
  n : e.n.allows s.flagN t.flagN
  h : e.h.allows s.flagH t.flagH
  c : e.c.allows s.flagC t.flagC
  kept : e = ⟨.kept, .kept, .kept, .kept⟩ → t.f = s.f
  low : s.f &&& 0x0F = 0 → t.f &&& 0x0F = 0

theorem FlagsBy.of_kept {e : FlagEffects} {s t : State} (he : e = ⟨.kept, .kept, .kept, .kept⟩) (hf : t.f = s.f) :
    FlagsBy e s t := by
  subst he
  have bit : ∀ k, t.f.getLsbD k = s.f.getLsbD k := fun k => by rw [hf]
  exact ⟨bit 7, bit 6, bit 5, bit 4, fun _ => hf, fun h => hf ▸ h⟩

/-- From the flags of s an instruction with these effects, not all of them `kept`, may give these flags (R37). -/
def FlagEffects.allow (e : FlagEffects) (s : State) (z n h c : Bool) : Prop :=
  e ≠ ⟨.kept, .kept, .kept, .kept⟩ ∧
    e.z.allows s.flagZ z ∧ e.n.allows s.flagN n ∧ e.h.allows s.flagH h ∧ e.c.allows s.flagC c

theorem FlagsBy.of_hasFlags {e : FlagEffects} {s t : State} {z n h c : Bool} (ht : t.hasFlags z n h c)
    (he : e.allow s z n h c) : FlagsBy e s t := by
  obtain ⟨rfl, rfl, rfl, rfl, hlow⟩ := ht
  obtain ⟨hne, hz, hn, hh, hc⟩ := he
  exact ⟨hz, hn, hh, hc, fun h => absurd h hne, fun _ => hlow⟩

/-! ### Memory and the bus -/

/-- What an instruction reaches through the bus or leaves to the platform: everything but the registers. -/
@[simp] def State.outside (s : State) :
    Memory × BusState × Option (List BusAccess) × List Word × List PlatformInput × Config :=
  (s.mem, s.bus, s.busLog, s.irqRequests, s.inputs, s.config)

theorem State.busRun_congr {s t : State} (hc : t.config = s.config) {b b' : BusState} {l : List BusAccess}
    (h : t.busRun b l b') : s.busRun b l b' := by
  induction l generalizing b with
  | nil => exact h
  | cons x l ih =>
    have hp : t.onPlatform = s.onPlatform := funext (onPlatform_congr hc)
    cases x with
    | read a v =>
      simp only [busRun, hp] at h ⊢
      exact ⟨h.1, ih h.2⟩
    | write a v =>
      simp only [busRun, hp] at h ⊢
      exact ih h

theorem State.busRun_append {s : State} {b b' b'' : BusState} {l m : List BusAccess} (hl : s.busRun b l b')
    (hm : s.busRun b' m b'') : s.busRun b (l ++ m) b'' := by
  induction l generalizing b with
  | nil =>
    cases hl
    exact hm
  | cons x l ih =>
    cases x with
    | read a v => exact ⟨hl.1, ih hl.2⟩
    | write a v => exact ih hl

/-- The accesses l, made in this order, lead from s to t but for the registers: they are what is recorded and what the
platform's own bus sees, no other location changes, and memory keeps its form (R72, R73, R76). -/
structure Transfer (s : State) (l : List BusAccess) (t : State) : Prop where
  log : t.busLog = s.busLog.map (fun log => log ++ l)
  run : s.busRun s.bus l t.bus
  frame : ∀ b, s.onPlatform b = false → Access.write b ∉ l.map BusAccess.access → t.peek b = s.peek b
  wf : s.mem.wf = true → t.mem.wf = true
  config : t.config = s.config
  inputs : t.inputs = s.inputs
  requests : t.irqRequests = s.irqRequests

/-- The same with the directions and addresses of the accesses alone (R78). -/
def Accesses (as : List Access) (s t : State) : Prop := ∃ l, l.map BusAccess.access = as ∧ Transfer s l t

theorem Transfer.congr {s t u : State} {l : List BusAccess} (h : Transfer s l u) (hout : t.outside = u.outside) :
    Transfer s l t := by
  simp only [State.outside, Prod.mk.injEq] at hout
  obtain ⟨hmem, hbus, hlog, hreq, hin, hconf⟩ := hout
  exact {
    log := hlog.trans h.log
    run := hbus ▸ h.run
    frame := fun b hb hw => (State.peek_congr hmem hbus hconf b).trans (h.frame b hb hw)
    wf := fun hm => hmem ▸ h.wf hm
    config := hconf.trans h.config
    inputs := hin.trans h.inputs
    requests := hreq.trans h.requests }

theorem Transfer.refl (s : State) : Transfer s [] s where
  log := by cases s.busLog <;> simp
  run := rfl
  frame _ _ _ := rfl
  wf := id
  config := rfl
  inputs := rfl
  requests := rfl

theorem Transfer.trans {s t u : State} {l m : List BusAccess} (h : Transfer s l u) (k : Transfer u m t) :
    Transfer s (l ++ m) t where
  log := by rw [k.log, h.log]; cases s.busLog <;> simp
  run := State.busRun_append h.run (State.busRun_congr h.config k.run)
  frame b hb hw := by
    rw [List.map_append, List.mem_append, not_or] at hw
    exact (k.frame b ((State.onPlatform_congr h.config b).trans hb) hw.2).trans (h.frame b hb hw.1)
  wf hm := k.wf (h.wf hm)
  config := k.config.trans h.config
  inputs := k.inputs.trans h.inputs
  requests := k.requests.trans h.requests

theorem Transfer.memRead (s : State) (a : Word) : Transfer s [.read a (s.peek a)] (s.memRead a).2 where
  log := rfl
  run := ⟨fun h => by simp [State.peek, h], rfl⟩
  frame _ hb _ := State.peek_memRead hb a
  wf := id
  config := rfl
  inputs := rfl
  requests := rfl

theorem Transfer.memWrite (s : State) (a : Word) (v : Byte) : Transfer s [.write a v] (s.memWrite a v) where
  log := rfl
  run := rfl
  frame b hb hw := by
    have hne : b ≠ a := fun h => hw (by simp [BusAccess.access, h])
    rw [State.peek_memWrite hb, if_neg hne]
  wf := State.wf_memWrite a v
  config := rfl
  inputs := rfl
  requests := rfl

section
variable {as : List Access} {s t : State}

theorem Accesses.of_transfer {u : State} {l : List BusAccess} (hl : Transfer s l u)
    (has : as = l.map BusAccess.access) (h : t.outside = u.outside) : Accesses as s t :=
  ⟨l, has.symm, hl.congr h⟩

theorem Accesses.congr {u : State} (h : Accesses as s u) (hout : t.outside = u.outside) : Accesses as s t :=
  h.imp fun _ ⟨has, hl⟩ => ⟨has, hl.congr hout⟩

theorem Accesses.none (has : as = []) (h : t.outside = s.outside) : Accesses as s t :=
  .of_transfer (.refl s) has h

theorem Accesses.read {a : Word} (has : as = [.read a]) (h : t.outside = (s.memRead a).2.outside) :
    Accesses as s t :=
  .of_transfer (.memRead s a) has h

theorem Accesses.write {a : Word} {v : Byte} (has : as = [.write a]) (h : t.outside = (s.memWrite a v).outside) :
    Accesses as s t :=
  .of_transfer (.memWrite s a v) has h

theorem Accesses.readWrite {a b : Word} {v : Byte} (has : as = [.read a, .write b])
    (h : t.outside = ((s.memRead a).2.memWrite b v).outside) : Accesses as s t :=
  .of_transfer ((Transfer.memRead s a).trans (.memWrite _ b v)) has h

theorem Accesses.writeWrite {a b : Word} {v w : Byte} (has : as = [.write a, .write b])
    (h : t.outside = ((s.memWrite a v).memWrite b w).outside) : Accesses as s t :=
  .of_transfer ((Transfer.memWrite s a v).trans (.memWrite _ b w)) has h

theorem Accesses.push {v : Word} (has : as = [.write (s.sp - 1), .write (s.sp - 2)])
    (h : t.outside = (s.push16 v).outside) : Accesses as s t :=
  .writeWrite has (h.trans (by rw [State.push16_writes]; rfl))

theorem Accesses.pop (has : as = [.read s.sp, .read (s.sp + 1)]) (h : t.outside = s.pop16.2.outside) :
    Accesses as s t :=
  .of_transfer ((Transfer.memRead s s.sp).trans (.memRead _ (s.sp + 1))) has
    (h.trans (by rw [State.pop16_reads]; rfl))

end

/-! ### The control state -/

/-- IME, ei_pending, the mode and SP have changed from s to t as R33 and R38 to R40 let the instruction change them. -/
structure ControlBy (i : Instr) (s t : State) : Prop where
  imeRises : t.ime = true → s.ime = true ∨ (i = .diD9 ∧ s.config.d9Meaning = .reti)
  imeFalls : t.ime = false → s.ime = false ∨ i = .diF3 ∨ (i = .diD9 ∧ s.config.d9Meaning = .di)
  eiRises : t.eiPending = true → s.eiPending = true ∨ i = .ei
  eiFalls : t.eiPending = false → s.eiPending = false ∨ i = .diF3 ∨ (i = .diD9 ∧ s.config.d9Meaning = .di)
  mode : t.mode = s.mode ∨ (i = .halt ∧ t.mode = .halted) ∨ (i = .stop ∧ t.mode = .stopped)
  sp : mayWriteSp i = false → t.sp = s.sp

/-- IME, ei_pending and the mode. -/
@[simp] def State.control (s : State) : Bool × Bool × Mode := (s.ime, s.eiPending, s.mode)

theorem ControlBy.of_same {i : Instr} {s t : State} (h : t.control = s.control)
    (hsp : mayWriteSp i = false → t.sp = s.sp) : ControlBy i s t := by
  simp only [State.control, Prod.mk.injEq] at h
  obtain ⟨hime, hei, hmode⟩ := h
  exact ⟨fun h => .inl (hime ▸ h), fun h => .inl (hime ▸ h), fun h => .inl (hei ▸ h), fun h => .inl (hei ▸ h),
    .inl hmode, hsp⟩

/-! ### All instructions -/

/-- What an instruction that answers the next state t does to the flags, to memory and the bus, and to the control
state. -/
structure Effect (i : Instr) (s t : State) : Prop where
  flags : FlagsBy (flagEffects i) s t
  accesses : Accesses (dataAccesses i s) s t
  control : ControlBy i s t

/-- The answer is a stop, or a next state with the property. -/
def Answers (P : State → Prop) : Result → Prop
  | .next t => P t
  | .fault _ => True
  | .refused _ => True

theorem answers_iff {P : State → Prop} {r : Result} : Answers P r ↔ ∀ t, r = .next t → P t := by
  cases r <;> simp [Answers]

theorem State.sp_setPair_of_ne (s : State) {r : Reg16} (h : r ≠ .sp) (v : Word) : (s.setPair r v).sp = s.sp := by
  cases r with
  | bc | de | hl => rfl
  | sp => exact absurd rfl h

section
variable {i : Instr} {s t : State}

/-- A group that keeps the flags and makes no access. -/
theorem Effect.quiet (hi : flagEffects i = ⟨.kept, .kept, .kept, .kept⟩ ∧ dataAccesses i s = []) (hf : t.f = s.f)
    (hout : t.outside = s.outside) (hc : ControlBy i s t) : Effect i s t :=
  ⟨.of_kept hi.1 hf, .none hi.2 hout, hc⟩

/-- A group that keeps the flags and makes one read. -/
theorem Effect.load {a : Word} (hi : flagEffects i = ⟨.kept, .kept, .kept, .kept⟩ ∧ dataAccesses i s = [.read a])
    (hf : t.f = s.f) (hout : t.outside = (s.memRead a).2.outside) (hc : ControlBy i s t) : Effect i s t :=
  ⟨.of_kept hi.1 hf, .read hi.2 hout, hc⟩

/-- A group that keeps the flags and makes one write. -/
theorem Effect.store {a : Word} {v : Byte}
    (hi : flagEffects i = ⟨.kept, .kept, .kept, .kept⟩ ∧ dataAccesses i s = [.write a])
    (hf : t.f = s.f) (hout : t.outside = (s.memWrite a v).outside) (hc : ControlBy i s t) : Effect i s t :=
  ⟨.of_kept hi.1 hf, .write hi.2 hout, hc⟩

end

/-- A call, and what is alike: PUSH16, and then pc alone moves (R371). -/
theorem Effect.push {i : Instr} {s : State} (v pc : Word)
    (hi : flagEffects i = ⟨.kept, .kept, .kept, .kept⟩ ∧ dataAccesses i s = [.write (s.sp - 1), .write (s.sp - 2)])
    (hsp : mayWriteSp i = true) : Effect i s ((s.push16 v).jump pc) :=
  ⟨.of_kept hi.1 (by simp), .push (v := v) hi.2 (by simp), .of_same (by simp) (by simp [hsp])⟩

/-- A return: POP16 into pc (R371). -/
theorem Effect.pop {i : Instr} {s : State}
    (hi : flagEffects i = ⟨.kept, .kept, .kept, .kept⟩ ∧ dataAccesses i s = [.read s.sp, .read (s.sp + 1)])
    (hsp : mayWriteSp i = true) : Effect i s (s.pop16.2.jump s.pop16.1) :=
  ⟨.of_kept hi.1 (by simp), .pop hi.2 (by simp), .of_same (by simp) (by simp [hsp])⟩

/-- Flags computed after the accesses and the change of registers that lead to u. -/
theorem Effect.compute {i : Instr} {s u : State} {z n h c : Bool} (len : Word)
    (hflags : (flagEffects i).allow s z n h c) (hacc : Accesses (dataAccesses i s) s u) (hc : ControlBy i s u) :
    Effect i s ((u.setFlags z n h c).advance len) where
  flags := .of_hasFlags (State.hasFlags_setFlags _ _ _ _ _ _) hflags
  accesses := hacc.congr rfl
  control := ⟨hc.imeRises, hc.imeFalls, hc.eiRises, hc.eiFalls, hc.mode, hc.sp⟩

/-- The accumulator operations compute their flags as R37 says. -/
theorem allow_alu (op : AluOp) (x : Operand8) (s : State) (v : Byte) :
    let r := aluResult s op v
    (flagEffects (Instr.alu op x)).allow s r.z r.n r.h r.c := by
  rw [flagEffects_alu]
  cases op <;> simp [FlagEffects.allow, FlagEffect.allows, aluResult, add8, sub8, and8, xor8, or8]

theorem accesses_afterOperand (op : AluOp) (x : Operand8) (s : State) :
    Accesses (dataAccesses (Instr.alu op x) s) s (s.afterOperand x) := by
  cases x with
  | reg r => exact .none (by simp) rfl
  | atHl => exact .read (by simp) rfl
  | d8 v => exact .none (by simp) rfl

/-- Every instruction, by the groups of the opcode map. -/
theorem exec_effect (i : Instr) (s : State) : Answers (Effect i s) (exec i s) := by
  induction i using Instr.byGroup
  case nop | jrR8 | jpA16 | jpHl => exact .quiet ⟨rfl, rfl⟩ rfl rfl (.of_same rfl fun _ => rfl)
  case ldSpHl => exact .quiet ⟨rfl, rfl⟩ rfl rfl (.of_same rfl nofun)
  case ldRegReg dst src =>
    rw [exec_ldRegReg]
    exact .quiet (by simp) (by simp) (by simp) (.of_same (by simp) (by simp))
  case ldRegD8 dst d8 =>
    rw [exec_ldRegD8]
    exact .quiet (by simp) (by simp) (by simp) (.of_same (by simp) (by simp))
  case ldPairD16 r d16 =>
    rw [exec_ldPairD16]
    exact .quiet (by simp) (by simp) (by simp) (.of_same (by simp) fun h => s.sp_setPair_of_ne (by simpa using h) _)
  case incPair r =>
    rw [exec_incPair]
    exact .quiet (by simp) (by simp) (by simp) (.of_same (by simp) fun h => s.sp_setPair_of_ne (by simpa using h) _)
  case decPair r =>
    rw [exec_decPair]
    exact .quiet (by simp) (by simp) (by simp) (.of_same (by simp) fun h => s.sp_setPair_of_ne (by simpa using h) _)
  case jrCond cc r8 =>
    rw [exec_jrCond, branch_eq]
    exact .quiet (by simp) rfl rfl (.of_same rfl fun _ => rfl)
  case jpCond cc a16 =>
    rw [exec_jpCond, branch_eq]
    exact .quiet (by simp) rfl rfl (.of_same rfl fun _ => rfl)
  case ldAAtBc | ldAAtDe | ldAAtIoC | ldAAtIoA8 | ldAAtA16 | ldAAtHlInc | ldAAtHlDec =>
    exact .load ⟨rfl, rfl⟩ rfl rfl (.of_same rfl fun _ => rfl)
  case ldRegAtHl dst =>
    rw [exec_ldRegAtHl]
    exact .load (a := s.hl) (by simp) (by simp) (by simp) (.of_same (by simp) (by simp))
  case ldAtBcA | ldAtDeA | ldAtIoCA | ldAtIoA8A | ldAtA16A | ldAtHlD8 | ldAtHlIncA | ldAtHlDecA =>
    exact .store ⟨rfl, rfl⟩ rfl rfl (.of_same rfl fun _ => rfl)
  case ldAtHlReg src =>
    rw [exec_ldAtHlReg]
    exact .store (by simp) rfl rfl (.of_same rfl fun _ => rfl)
  case ldAtA16Sp a16 =>
    exact ⟨.of_kept rfl rfl, .writeWrite rfl rfl, .of_same rfl fun _ => rfl⟩
  case pushStack r =>
    rw [exec_pushStack]
    exact .push _ _ (by simp) (by simp)
  case rst y =>
    rw [exec_rst]
    exact .push _ _ (by simp) (by simp)
  case callA16 a16 => exact .push _ _ (by simp) rfl
  case callCond cc a16 =>
    rw [exec_callCond, callIf]
    split
    next h => exact .push _ _ (by simp [h]) (by simp)
    next h => exact .quiet (by simp [h]) rfl rfl (.of_same rfl fun _ => rfl)
  case popStack r =>
    rw [exec_popStack]
    cases r
    case af =>
      exact ⟨⟨trivial, trivial, trivial, trivial, nofun, fun _ => mask_low _⟩, .pop rfl (by simp),
        .of_same (by simp) nofun⟩
    all_goals exact ⟨.of_kept rfl s.f_pop16, .pop rfl (by simp), .of_same (by simp) nofun⟩
  case ret => exact .pop (by simp) rfl
  case retCond cc =>
    rw [exec_retCond, retIf]
    split
    next h => exact .pop (by simp [h]) (by simp)
    next h => exact .quiet (by simp [h]) rfl rfl (.of_same rfl fun _ => rfl)
  case incReg8 r =>
    rw [exec_incReg8]
    exact .compute _ (by simp [FlagEffects.allow, FlagEffect.allows, inc8]) (.none (by simp) (by simp))
      (.of_same (by simp) (by simp))
  case decReg8 r =>
    rw [exec_decReg8]
    exact .compute _ (by simp [FlagEffects.allow, FlagEffect.allows, dec8]) (.none (by simp) (by simp))
      (.of_same (by simp) (by simp))
  case incAtHl | decAtHl =>
    exact .compute _ ⟨nofun, trivial, rfl, trivial, rfl⟩ (.readWrite rfl rfl) (.of_same rfl fun _ => rfl)
  case alu op x =>
    have hacc := accesses_afterOperand op x s
    have hc : (s.afterOperand x).control = s.control ∧ (s.afterOperand x).sp = s.sp := by cases x <;> exact ⟨rfl, rfl⟩
    rw [exec_alu]
    split
    next => exact .compute _ (allow_alu op x s _) hacc (.of_same hc.1 fun _ => hc.2)
    next => exact .compute _ (allow_alu op x s _) (hacc.congr rfl) (.of_same hc.1 fun _ => hc.2)
  case addHlPair r =>
    rw [exec_addHlPair]
    exact .compute _ (by simp [FlagEffects.allow, FlagEffect.allows]) (.none (by simp) rfl)
      (.of_same rfl fun _ => rfl)
  case rlca | rrca | rla | rra =>
    exact .compute _ ⟨nofun, rfl, rfl, rfl, trivial⟩ (.none rfl rfl) (.of_same rfl fun _ => rfl)
  case daa => exact .compute _ ⟨nofun, trivial, rfl, rfl, trivial⟩ (.none rfl rfl) (.of_same rfl fun _ => rfl)
  case cpl => exact .compute _ ⟨nofun, rfl, rfl, rfl, rfl⟩ (.none rfl rfl) (.of_same rfl fun _ => rfl)
  case scf => exact .compute _ ⟨nofun, rfl, rfl, rfl, rfl⟩ (.none rfl rfl) (.of_same rfl fun _ => rfl)
  case ccf => exact .compute _ ⟨nofun, rfl, rfl, rfl, trivial⟩ (.none rfl rfl) (.of_same rfl fun _ => rfl)
  case addSpR8 r8 => exact .compute _ ⟨nofun, rfl, rfl, trivial, trivial⟩ (.none rfl rfl) (.of_same rfl nofun)
  case ldHlSpR8 r8 =>
    exact .compute _ ⟨nofun, rfl, rfl, trivial, trivial⟩ (.none rfl rfl) (.of_same rfl fun _ => rfl)
  case halt =>
    show Answers _ (execHalt s)
    rw [execHalt]
    split
    · trivial
    · exact .quiet ⟨rfl, rfl⟩ rfl rfl ⟨.inl, .inl, .inl, .inl, .inr (.inl ⟨rfl, rfl⟩), fun _ => rfl⟩
  case stop =>
    show Answers _ (execStop s)
    rw [execStop]
    split
    next h =>
      exact .quiet ⟨rfl, by simp [h]⟩ rfl rfl ⟨.inl, .inl, .inl, .inl, .inr (.inr ⟨rfl, rfl⟩), fun _ => rfl⟩
    next h =>
      exact .load ⟨rfl, by simp only [dataAccesses_stop, h, if_true]⟩ rfl rfl
        ⟨.inl, .inl, .inl, .inl, .inr (.inr ⟨rfl, rfl⟩), fun _ => rfl⟩
  case diD9 =>
    show Answers _ (execDiD9 s)
    rw [execDiD9]
    split
    next h =>
      exact .quiet ⟨rfl, by simp [h]⟩ rfl rfl ⟨nofun, fun _ => .inr (.inr ⟨rfl, h⟩), nofun,
        fun _ => .inr (.inr ⟨rfl, h⟩), .inl rfl, nofun⟩
    next h =>
      rw [s.trapReturn_eq]
      exact ⟨.of_kept rfl s.f_pop16, .pop (by simp [h]) rfl, fun _ => .inr ⟨rfl, h⟩, nofun,
        fun hei => .inl (s.eiPending_pop16 ▸ hei), fun hei => .inl (s.eiPending_pop16 ▸ hei), .inl s.mode_pop16, nofun⟩
  case diF3 =>
    exact .quiet ⟨rfl, rfl⟩ rfl rfl ⟨nofun, fun _ => .inr (.inl rfl), nofun, fun _ => .inr (.inl rfl), .inl rfl,
      fun _ => rfl⟩
  case ei => exact .quiet ⟨rfl, rfl⟩ rfl rfl ⟨.inl, .inl, fun _ => .inr rfl, nofun, .inl rfl, fun _ => rfl⟩
  case cbPrefix => trivial
  case unlisted op i h =>
    rw [exec_of_mem_unlistedRows h]
    trivial

theorem effect_of_exec {i : Instr} {s t : State} (h : exec i s = .next t) : Effect i s t :=
  answers_iff.mp (exec_effect i s) t h

/-- Settles O56. -/
theorem flagTable : Obligations.FlagTable := by
  intro i s t h
  obtain ⟨hz, hn, hh, hc, hkept, -⟩ := (effect_of_exec h).flags
  exact ⟨hz, hn, hh, hc, hkept⟩

/-- Settles O57. -/
theorem controlStateFrame : Obligations.ControlStateFrame := by
  intro i s t h
  obtain ⟨-, ⟨l, -, hl⟩, hc⟩ := effect_of_exec h
  exact ⟨hc.imeRises, hc.imeFalls, hc.eiRises, hc.eiFalls, hc.mode, hc.sp, hl.config, hl.inputs, hl.requests⟩

/-- Settles O58. -/
theorem accessesAndMemoryFrame : Obligations.AccessesAndMemoryFrame := by
  intro i s t h
  obtain ⟨l, hacc, hl⟩ := (effect_of_exec h).accesses
  refine ⟨fun log hlog => ⟨l, by rw [hl.log, hlog]; rfl, hacc, hl.run⟩, fun hlog => by rw [hl.log, hlog]; rfl,
    fun hnone => ?_, fun b hb hstores => hl.frame b hb (by rwa [hacc])⟩
  obtain rfl : l = [] := List.map_eq_nil_iff.mp (hacc.trans hnone)
  exact hl.run

end Sys2Proof.Machine
end

section
/-! PROOF. What a step does not look at (O59, O60): the record of accesses, and outside of 0xD9 and `STOP` the two
parameters. Both are changes of a state with which every operation commutes. -/

namespace Sys2Proof.Machine

/-- A change of the parameters and of the record that leaves the bus and the interrupt interface in force and keeps
what is recorded in order. -/
structure View where
  config : Config → Config
  log : Option (List BusAccess) → Option (List BusAccess)
  irq_config : ∀ c, (config c).irq = c.irq
  bus_config : ∀ c, (config c).bus = c.bus
  log_append : ∀ l x, log (l.map (fun l => l ++ [x])) = (log l).map (fun l => l ++ [x])

def View.apply (v : View) (s : State) : State := { s with config := v.config s.config, busLog := v.log s.busLog }

/-- An answer with its next state changed. -/
def mapNext (g : State → State) : Result → Result
  | .next s => .next (g s)
  | .fault r => .fault r
  | .refused r => .refused r

section
variable (v : View) (s : State)

/-! ### The bus, the stack and the fetch -/

theorem View.onPlatform_apply (a : Word) : (v.apply s).onPlatform a = s.onPlatform a := by
  simp only [State.onPlatform, State.isIrqRegister, apply, v.bus_config, v.irq_config]

theorem View.highBitsFixed_apply (a : Word) : (v.apply s).highBitsFixed a = s.highBitsFixed a := by
  simp only [State.highBitsFixed, apply, v.irq_config]

theorem View.peek_apply (a : Word) : (v.apply s).peek a = s.peek a := by
  simp only [State.peek, onPlatform_apply, highBitsFixed_apply]
  rfl

theorem View.memRead_apply (a : Word) : (v.apply s).memRead a = (s.peek a, v.apply (s.memRead a).2) := by
  rw [State.memRead, peek_apply, onPlatform_apply]
  simp only [State.memRead, apply, State.record, v.log_append]

theorem View.memWrite_apply (a : Word) (x : Byte) : (v.apply s).memWrite a x = v.apply (s.memWrite a x) := by
  rw [State.memWrite, State.poke, onPlatform_apply, highBitsFixed_apply]
  simp only [State.memWrite, State.poke, apply, State.record, v.log_append]

theorem View.push16_apply (x : Word) : (v.apply s).push16 x = v.apply (s.push16 x) := by
  rw [State.push16_writes, State.push16_writes, memWrite_apply, memWrite_apply]
  rfl

theorem View.pop16_apply : (v.apply s).pop16 = (s.pop16.1, v.apply s.pop16.2) := by
  rw [State.pop16_reads, State.pop16_reads, memRead_apply]
  dsimp only
  rw [memRead_apply]
  rfl

theorem View.irqRequested_apply : (v.apply s).irqRequested = s.irqRequested := by
  simp only [State.irqRequested, apply, v.irq_config]
  rfl

theorem View.reg_apply (r : Reg8) : (v.apply s).reg r = s.reg r := by cases r <;> rfl

theorem View.setReg_apply (r : Reg8) (x : Byte) : (v.apply s).setReg r x = v.apply (s.setReg r x) := by
  cases r <;> rfl

/-! ### The shared operations of the meanings -/

theorem View.loadReg_apply (dst : Reg8) (x : Byte) (len : Word) :
    loadReg (v.apply s) dst x len = mapNext v.apply (loadReg s dst x len) := by
  rw [loadReg, setReg_apply]
  rfl

theorem View.loadByte_apply (dst : Reg8) (addr len : Word) :
    loadByte (v.apply s) dst addr len = mapNext v.apply (loadByte s dst addr len) := by
  rw [loadByte, memRead_apply, setReg_apply]
  rfl

theorem View.storeByte_apply (addr : Word) (x : Byte) (len : Word) :
    storeByte (v.apply s) addr x len = mapNext v.apply (storeByte s addr x len) := by
  rw [storeByte, memWrite_apply]
  rfl

theorem View.loadAThenStepHl_apply (hl : Word) :
    loadAThenStepHl (v.apply s) hl = mapNext v.apply (loadAThenStepHl s hl) := by
  rw [loadAThenStepHl, memRead_apply]
  rfl

theorem View.storeAThenStepHl_apply (hl : Word) :
    storeAThenStepHl (v.apply s) hl = mapNext v.apply (storeAThenStepHl s hl) := by
  rw [storeAThenStepHl, memWrite_apply]
  rfl

theorem View.call_apply (target len : Word) : call (v.apply s) target len = mapNext v.apply (call s target len) := by
  rw [call, push16_apply]
  rfl

theorem View.ret_apply : ret (v.apply s) = mapNext v.apply (ret s) := by
  rw [ret, pop16_apply]
  rfl

theorem View.afterOperand_apply (x : Operand8) : (v.apply s).afterOperand x = v.apply (s.afterOperand x) := by
  cases x with
  | reg r => rfl
  | atHl => exact congrArg Prod.snd (v.memRead_apply s s.hl)
  | d8 w => rfl

theorem View.operand_apply (x : Operand8) : (v.apply s).operand x = s.operand x := by
  cases x with
  | reg r => exact v.reg_apply s r
  | atHl => exact v.peek_apply s s.hl
  | d8 w => rfl

/-- Every instruction commutes with the change; 0xD9 and `STOP` need their own parameter to stay (R8). -/
theorem View.exec_apply (i : Instr) (hd9 : i = .diD9 → (v.config s.config).d9Meaning = s.config.d9Meaning)
    (hstop : i = .stop → (v.config s.config).stopLength = s.config.stopLength) :
    exec i (v.apply s) = mapNext v.apply (exec i s) := by
  induction i using Instr.byGroup
  case ldRegReg dst src =>
    rw [exec_ldRegReg, exec_ldRegReg, reg_apply]
    exact v.loadReg_apply s dst _ 1
  case ldRegD8 dst d8 =>
    rw [exec_ldRegD8, exec_ldRegD8]
    exact v.loadReg_apply s dst d8 2
  case ldRegAtHl dst =>
    rw [exec_ldRegAtHl, exec_ldRegAtHl]
    exact v.loadByte_apply s dst s.hl 1
  case ldAAtBc | ldAAtDe | ldAAtIoA8 | ldAAtIoC | ldAAtA16 => exact v.loadByte_apply s .a _ _
  case ldAtHlReg src =>
    rw [exec_ldAtHlReg, exec_ldAtHlReg, reg_apply]
    exact v.storeByte_apply s s.hl _ 1
  case ldAtBcA | ldAtDeA | ldAtIoA8A | ldAtIoCA | ldAtA16A | ldAtHlD8 => exact v.storeByte_apply s _ _ _
  case ldAAtHlInc | ldAAtHlDec => exact v.loadAThenStepHl_apply s _
  case ldAtHlIncA | ldAtHlDecA => exact v.storeAThenStepHl_apply s _
  case ldAtA16Sp a16 =>
    show execLdAtA16Sp a16 (v.apply s) = _
    rw [execLdAtA16Sp, memWrite_apply, memWrite_apply]
    rfl
  case incReg8 r =>
    rw [exec_incReg8, exec_incReg8, incReg, reg_apply, setReg_apply]
    rfl
  case decReg8 r =>
    rw [exec_decReg8, exec_decReg8, decReg, reg_apply, setReg_apply]
    rfl
  case incAtHl =>
    show incMem (v.apply s) = _
    rw [incMem, memRead_apply]
    dsimp only
    rw [memWrite_apply]
    rfl
  case decAtHl =>
    show decMem (v.apply s) = _
    rw [decMem, memRead_apply]
    dsimp only
    rw [memWrite_apply]
    rfl
  case alu op x =>
    rw [exec_alu, exec_alu, afterOperand_apply, operand_apply]
    split <;> rfl
  case ldPairD16 r d16 => cases r <;> rfl
  case incPair r => cases r <;> rfl
  case decPair r => cases r <;> rfl
  case addHlPair r => cases r <;> rfl
  case pushStack r =>
    rw [exec_pushStack, exec_pushStack, pushPair, push16_apply]
    cases r <;> rfl
  case popStack r =>
    rw [exec_popStack, exec_popStack, popPair, pop16_apply]
    cases r <;> rfl
  case jrCond cc r8 =>
    rw [exec_jrCond, exec_jrCond, branch_eq, branch_eq]
    cases cc <;> rfl
  case jpCond cc a16 =>
    rw [exec_jpCond, exec_jpCond, branch_eq, branch_eq]
    cases cc <;> rfl
  case callCond cc a16 =>
    have hcc : (v.apply s).holds cc = s.holds cc := by cases cc <;> rfl
    rw [exec_callCond, exec_callCond, callIf, callIf, hcc, call_apply]
    split <;> rfl
  case retCond cc =>
    have hcc : (v.apply s).holds cc = s.holds cc := by cases cc <;> rfl
    rw [exec_retCond, exec_retCond, retIf, retIf, hcc, ret_apply]
    split <;> rfl
  case rst y =>
    rw [exec_rst, exec_rst]
    exact v.call_apply s _ 1
  case callA16 a16 => exact v.call_apply s a16 3
  case ret => exact v.ret_apply s
  case halt =>
    show execHalt (v.apply s) = mapNext v.apply (execHalt s)
    rw [execHalt, execHalt, irqRequested_apply, show (v.apply s).ime = s.ime from rfl]
    split <;> rfl
  case stop =>
    show execStop (v.apply s) = mapNext v.apply (execStop s)
    rw [execStop, execStop, memRead_apply, show (v.apply s).config.stopLength = s.config.stopLength from hstop rfl]
    split <;> rfl
  case diD9 =>
    show execDiD9 (v.apply s) = mapNext v.apply (execDiD9 s)
    rw [execDiD9, execDiD9, show (v.apply s).config.d9Meaning = s.config.d9Meaning from hd9 rfl,
      State.trapReturn_eq, pop16_apply]
    split <;> rfl
  case unlisted op i h =>
    rw [exec_of_mem_unlistedRows h, exec_of_mem_unlistedRows h]
    rfl
  all_goals rfl

/-! ### The stages of a step -/

theorem View.fetch_apply : (v.apply s).fetch = (s.fetch.1, v.apply s.fetch.2) := by
  rw [State.fetch_reads, State.fetch_reads]
  simp only [memRead_apply, peek_apply, State.memRead_fst, show (v.apply s).pc = s.pc from rfl]
  split <;> rfl

theorem View.irqSelect_apply : (v.apply s).irqSelect = s.irqSelect.map (fun x => (x.1, v.apply x.2)) := by
  unfold State.irqSelect
  rw [show (v.apply s).config.irq = s.config.irq from v.irq_config _]
  cases s.config.irq with
  | noInterrupts => rfl
  | external =>
    dsimp only
    rw [show (v.apply s).irqRequests = s.irqRequests from rfl]
    cases s.irqRequests <;> rfl
  | gameBoy | gameBoyFlat | platform =>
    dsimp only
    rw [Option.map_map]
    rfl

theorem View.applyInput_apply (x : PlatformInput) : (v.apply s).applyInput x = v.apply (s.applyInput x) := by
  unfold State.applyInput
  rw [show (v.apply s).config.irq = s.config.irq from v.irq_config _]
  cases s.config.irq <;> rfl

theorem View.takeInput_apply : (v.apply s).takeInput = (s.takeInput.1, v.apply s.takeInput.2) := by
  unfold State.takeInput
  rw [show (v.apply s).inputs = s.inputs from rfl]
  cases s.inputs with
  | nil => rfl
  | cons x rest => exact congrArg (Prod.mk _) (v.applyInput_apply { s with inputs := rest, bus := x.bus.getD s.bus } x)

theorem View.delayedEnable_apply : (v.apply s).delayedEnable = v.apply s.delayedEnable := by
  rw [State.delayedEnable_eq, State.delayedEnable_eq]
  rfl

theorem View.trapEntry_apply (w : Word) : (v.apply s).trapEntry w = v.apply (s.trapEntry w) := by
  rw [State.trapEntry_writes, State.trapEntry_writes, memWrite_apply, memWrite_apply]
  rfl

variable (hd9 : ∀ c, (v.config c).d9Meaning = c.d9Meaning) (hstop : ∀ c, (v.config c).stopLength = c.stopLength)
include hd9 hstop

theorem View.runInstruction_apply : (v.apply s).runInstruction = mapNext v.apply s.runInstruction := by
  rw [State.runInstruction, fetch_apply]
  exact v.exec_apply _ _ (fun _ => hd9 _) (fun _ => hstop _)

theorem View.runFromInterruptCheck_apply :
    (v.apply s).runFromInterruptCheck = mapNext v.apply s.runFromInterruptCheck := by
  unfold State.runFromInterruptCheck
  rw [irqSelect_apply, delayedEnable_apply, v.runInstruction_apply _ hd9 hstop, show (v.apply s).ime = s.ime from rfl]
  split
  · cases s.irqSelect with
    | none => rfl
    | some x => exact congrArg Host.Outcome.next (v.trapEntry_apply _ _)
  · rfl

/-- A step commutes with a change of the record, and of the parameters that it does not read. -/
theorem View.step_apply : step (v.apply s) = mapNext v.apply (step s) := by
  have hrun : ∀ p : State, (v.apply p).runFromInterruptCheck = mapNext v.apply p.runFromInterruptCheck :=
    fun p => v.runFromInterruptCheck_apply p hd9 hstop
  show (v.apply s).takeInput.2.runStages (v.apply s).takeInput.1 = mapNext v.apply (s.takeInput.2.runStages s.takeInput.1)
  rw [takeInput_apply]
  generalize s.takeInput.2 = p
  rw [State.runStages, State.runStages, irqRequested_apply, show (v.apply p).mode = p.mode from rfl]
  cases p.mode with
  | running => exact hrun p
  | halted =>
    dsimp only
    split
    · exact hrun { p with mode := .running }
    · rfl
  | stopped =>
    dsimp only
    split
    · exact hrun { p with mode := .running }
    · rfl

end

/-! ### The statements -/

/-- The record left out. -/
def View.withoutLog : View where
  config := id
  log _ := none
  irq_config _ := rfl
  bus_config _ := rfl
  log_append _ _ := rfl

/-- Settles O59: leaving out the record commutes with a step, and forgets which record there was. -/
theorem recordIsInvisible : Obligations.RecordIsInvisible := by
  intro s l
  have hstep : ∀ s : State, withoutLog (step s) = step s.withoutLog := fun s =>
    (View.withoutLog.step_apply s (fun _ => rfl) (fun _ => rfl)).symm
  rw [hstep, hstep]
  rfl

/-- Other values of `D9_MEANING` and `STOP_LENGTH`. -/
def View.parameters (m : D9Meaning) (n : StopLength) : View where
  config c := { c with d9Meaning := m, stopLength := n }
  log := id
  irq_config _ := rfl
  bus_config _ := rfl
  log_append _ _ := rfl

/-- Settles O60. -/
theorem parametersActLocally : Obligations.ParametersActLocally := by
  intro i m n s t hd9 hstop h other
  exact ((View.parameters m n).exec_apply s i hd9 hstop).trans (by rw [h]; rfl)

end Sys2Proof.Machine
end

section
/-! PROOF. The statements on a step (O7 to O20): what it answers where it waits, where it takes an interrupt and where
it runs an instruction, and what each of these says of the state after it. -/

namespace Sys2Proof.Machine

/-! ### What a step answers -/

section
variable {s : State}

theorem step_of_not_awake (h : ¬ s.takeInput.2.awake s.takeInput.1) : step s = .next s.takeInput.2 :=
  State.runStages_of_not_awake h

theorem step_of_due (ha : s.takeInput.2.awake s.takeInput.1) (hd : s.takeInput.2.interruptDue) :
    ∃ v p, s.takeInput.2.irqSelect = some (v, p) ∧ step s = .next (p.trapEntry v) :=
  State.runStages_of_due ha hd

theorem step_of_not_due (ha : s.takeInput.2.awake s.takeInput.1) (hd : ¬ s.takeInput.2.interruptDue) :
    step s = exec s.takeInput.2.ready.fetch.1 s.takeInput.2.ready.fetch.2 :=
  State.runStages_of_not_due ha hd

end

/-- Settles O7. -/
theorem stepRunsDecodedInstruction : Obligations.StepRunsDecodedInstruction := by
  intro s i n p q ha hd hdec
  rw [step_of_not_due ha hd, State.fetch_of_readBytes (s := p.ready) hdec]
  rfl

/-- Settles O8. -/
theorem waitingStepChangesNothing : Obligations.WaitingStepChangesNothing := fun _ h => step_of_not_awake h

/-! ### Which instruction is fetched -/

/-- What is fetched is encoded by bytes of which the first is the byte at pc (R91). -/
theorem State.exists_encode_fetch (s : State) : ∃ bytes, encode s.fetch.1 = s.peek s.pc :: bytes := by
  have hdec := eq_encode_append_of_decode s.decode_readBytes_pc
  rw [List.append_nil] at hdec
  obtain ⟨n, hn⟩ : ∃ n, (opcodeRow (s.peek s.pc)).length = n + 1 := by
    cases opcodeRow (s.peek s.pc) <;> exact ⟨_, rfl⟩
  rw [hn] at hdec
  exact ⟨_, hdec.symm⟩

/-- Where the byte at pc is an instruction of one byte, the fetch gives it after one read (R91). -/
theorem State.fetch_of_peek {s : State} {op : Byte} {i : Instr} (hi : encode i = [op]) (h : s.peek s.pc = op) :
    s.fetch = (i, (s.memRead s.pc).2) :=
  fetch_of_readBytes (n := 1) (show decode [s.peek s.pc] = _ from h ▸ decode_of_encode hi [])

/-- An instruction of one byte is fetched exactly where the byte at pc is its own (R91). -/
theorem State.fetch_eq_iff {s : State} {op : Byte} {i : Instr} (hi : encode i = [op]) :
    s.fetch.1 = i ↔ s.peek s.pc = op := by
  constructor
  · rintro rfl
    obtain ⟨bytes, hb⟩ := s.exists_encode_fetch
    exact (List.cons.inj (hb.symm.trans hi)).1
  · intro h
    rw [fetch_of_peek hi h]

/-! ### Which instructions stop -/

/-- Every instruction of the source table but `HALT` answers a next state. -/
theorem exec_completes {i : Instr} (hwf : i.wellFormed = true) (hhalt : i ≠ .halt) (s : State) :
    ∃ t, exec i s = .next t := by
  induction i using Instr.byGroup
  case ldRegReg dst src => exact ⟨_, exec_ldRegReg dst src s⟩
  case ldRegAtHl dst => exact ⟨_, exec_ldRegAtHl dst s⟩
  case ldAtHlReg src => exact ⟨_, exec_ldAtHlReg src s⟩
  case ldRegD8 dst d8 => exact ⟨_, exec_ldRegD8 dst d8 s⟩
  case incReg8 r => exact ⟨_, exec_incReg8 r s⟩
  case decReg8 r => exact ⟨_, exec_decReg8 r s⟩
  case alu op x =>
    obtain ⟨t, ht, -⟩ := exec_alu_next op x s
    exact ⟨t, ht⟩
  case ldPairD16 r d16 => exact ⟨_, exec_ldPairD16 r d16 s⟩
  case incPair r => exact ⟨_, exec_incPair r s⟩
  case decPair r => exact ⟨_, exec_decPair r s⟩
  case addHlPair r => exact ⟨_, exec_addHlPair r s⟩
  case pushStack r => exact ⟨_, exec_pushStack r s⟩
  case popStack r => exact ⟨_, exec_popStack r s⟩
  case jrCond cc r8 => exact ⟨_, exec_jrCond cc r8 s⟩
  case jpCond cc a16 => exact ⟨_, exec_jpCond cc a16 s⟩
  case callCond cc a16 =>
    rw [exec_callCond, callIf]
    split <;> exact ⟨_, rfl⟩
  case retCond cc =>
    rw [exec_retCond, retIf]
    split <;> exact ⟨_, rfl⟩
  case rst y => exact ⟨_, exec_rst y s⟩
  case halt => exact absurd rfl hhalt
  case stop =>
    show ∃ t, execStop s = .next t
    rw [execStop]
    split <;> exact ⟨_, rfl⟩
  case diD9 =>
    show ∃ t, execDiD9 s = .next t
    rw [execDiD9]
    split <;> exact ⟨_, rfl⟩
  case cbPrefix => exact absurd hwf Bool.false_ne_true
  case unlisted op i h => simp [Instr.wellFormed, i.unlisted_iff.mpr ⟨op, h⟩] at hwf
  all_goals exact ⟨_, rfl⟩

theorem not_mem_unlistedRows_of_wellFormed {i : Instr} (hwf : i.wellFormed = true) (op : Byte) :
    (op, i) ∉ unlistedRows := fun h => by
  simp [Instr.wellFormed, i.unlisted_iff.mpr ⟨op, h⟩] at hwf

/-- A fault is raised by an unlisted byte, or by `HALT` with IME = 0 and a request there (R501, R503). -/
theorem exec_eq_fault_iff (i : Instr) (s : State) (f : Fault) :
    exec i s = .fault f ↔
      (∃ op, (op, i) ∈ unlistedRows ∧ f = .illegalOpcode op s.pc) ∨
        (i = .halt ∧ s.ime = false ∧ s.irqRequested = true ∧ f = .haltBug s.pc) := by
  by_cases hhalt : i = .halt
  · subst hhalt
    have hnot := not_mem_unlistedRows_of_wellFormed (i := .halt) rfl
    obtain ⟨hhalts, hbug⟩ := haltOrHaltBug s
    by_cases h : s.ime = false ∧ s.irqRequested = true
    · simp [hbug h.1 h.2, h, hnot, eq_comm]
    · have hruns : s.ime = true ∨ s.irqRequested = false := by
        rwa [Decidable.not_and_iff_or_not, Bool.not_eq_false, Bool.not_eq_true] at h
      simp only [hhalts hruns, hnot, reduceCtorEq, false_and, exists_const, true_and, false_or, false_iff]
      exact fun ⟨hime, hreq, _⟩ => h ⟨hime, hreq⟩
  obtain hwf | rfl | ⟨op, hmem⟩ := i.wellFormed_or_excluded
  · obtain ⟨t, ht⟩ := exec_completes hwf hhalt s
    simp [ht, hhalt, not_mem_unlistedRows_of_wellFormed hwf]
  · have hnot : ∀ op, (op, Instr.cbPrefix) ∉ unlistedRows := fun op h =>
      absurd (Instr.unlisted_iff _ |>.mpr ⟨op, h⟩) Bool.false_ne_true
    simp [exec, execCbPrefix, hnot]
  · rw [exec_of_mem_unlistedRows hmem]
    constructor
    · intro h
      exact .inl ⟨op, hmem, (Host.Outcome.fault.inj h).symm⟩
    · rintro (⟨op', hmem', rfl⟩ | ⟨h, -⟩)
      · have hop := (encode_of_mem_unlistedRows hmem).symm.trans (encode_of_mem_unlistedRows hmem')
        rw [(List.cons.inj hop).1]
      · exact absurd h hhalt

/-- The byte 0xCB alone is refused (R502). -/
theorem exec_eq_refused_iff (i : Instr) (s : State) (x : Refusal) :
    exec i s = .refused x ↔ i = .cbPrefix ∧ x = .cbPrefix s.pc := by
  constructor
  · intro h
    obtain hwf | rfl | ⟨op, hmem⟩ := i.wellFormed_or_excluded
    · by_cases hhalt : i = .halt
      · subst hhalt
        replace h : execHalt s = .refused x := h
        rw [execHalt] at h
        split at h <;> cases h
      · obtain ⟨t, ht⟩ := exec_completes hwf hhalt s
        rw [ht] at h
        cases h
    · exact ⟨rfl, (Host.Outcome.refused.inj h).symm⟩
    · rw [exec_of_mem_unlistedRows hmem] at h
      cases h
  · rintro ⟨rfl, rfl⟩
    rfl

/-- Settles O17. -/
theorem stepStopsExactly : Obligations.StepStopsExactly := by
  intro s p runs r
  by_cases hruns : runs
  case neg =>
    have hnext : ∃ t, step s = .next t := by
      by_cases ha : p.awake s.takeInput.1
      · obtain ⟨v, q, -, ht⟩ := step_of_due ha (not_not.mp fun hd => hruns ⟨ha, hd⟩)
        exact ⟨_, ht⟩
      · exact ⟨_, step_of_not_awake ha⟩
    obtain ⟨t, ht⟩ := hnext
    simp [ht, hruns]
  case pos =>
    have hstep : step s = exec p.ready.fetch.1 p.ready.fetch.2 := step_of_not_due hruns.1 hruns.2
    have hpc : p.ready.fetch.2.pc = p.pc := by rw [State.fetch_state]; rfl
    have hime : p.ready.fetch.2.ime = (p.ime || p.eiPending) := by rw [State.fetch_state]; rfl
    have hunlisted : ∀ f, (∃ op, (op, p.ready.fetch.1) ∈ unlistedRows ∧ f = Fault.illegalOpcode op p.pc) ↔
        ∃ i, (r.1, i) ∈ unlistedRows ∧ f = .illegalOpcode r.1 p.pc := by
      intro f
      constructor
      · rintro ⟨op, hmem, rfl⟩
        have hop : r.1 = op := (State.fetch_eq_iff (encode_of_mem_unlistedRows hmem)).mp rfl
        exact ⟨_, hop ▸ hmem, by rw [hop]⟩
      · rintro ⟨i, hmem, rfl⟩
        have hi := (State.fetch_eq_iff (s := p.ready) (encode_of_mem_unlistedRows hmem)).mpr rfl
        exact ⟨_, hi ▸ hmem, rfl⟩
    refine ⟨fun f => ?faults, fun x => ?refusals⟩
    case faults =>
      have hafter : r.1 = 0x76 → p.ready.fetch.2 = r.2 := fun h => by
        rw [State.fetch_of_peek (i := .halt) rfl h]
        rfl
      have hhalt : ∀ q : Prop, (r.1 = 0x76 ∧ (p.ime || p.eiPending) = false ∧ p.ready.fetch.2.irqRequested = true ∧ q) ↔
          (r.1 = 0x76 ∧ p.ime = false ∧ p.eiPending = false ∧ r.2.irqRequested = true ∧ q) := fun q =>
        and_congr_right fun h => by rw [hafter h, Bool.or_eq_false_iff, and_assoc]
      rw [hstep, exec_eq_fault_iff, hpc, hime, hunlisted, State.fetch_eq_iff (op := 0x76) rfl]
      exact (or_congr_right (hhalt _)).trans ⟨fun h => ⟨hruns, h⟩, fun h => h.2⟩
    case refusals =>
      rw [hstep, exec_eq_refused_iff, hpc, State.fetch_eq_iff (op := 0xCB) rfl]
      exact ⟨fun h => ⟨hruns, h⟩, fun h => h.2⟩

/-! ### The first step and the invariant -/

/-- A state in which no enable is pending and the CPU runs is ready as it stands (R510). -/
theorem State.ready_eq {s : State} (hm : s.mode = .running) (hei : s.eiPending = false) : s.ready = s := by
  apply State.ext <;> simp [ready, hm, hei]

/-- Settles O18: taking the input changes neither IME nor the mode, and only 0xD9 sets IME. -/
theorem firstStepTakesNoInterrupt : Obligations.FirstStepTakesNoInterrupt := by
  rintro s ⟨hmode, hime, hei, -⟩
  have hp := s.takeInput_eq
  have hpm : s.takeInput.2.mode = .running := by rw [hp]; exact hmode
  have hpi : s.takeInput.2.ime = false := by rw [hp]; exact hime
  have hpe : s.takeInput.2.eiPending = false := by rw [hp]; exact hei
  have hpc : s.takeInput.2.pc = s.pc := by rw [hp]
  have hpconf : s.takeInput.2.config = s.config := by rw [hp]
  have hstep := step_of_not_due (s := s) (.inl hpm) fun hd => by rw [hd.1] at hpi; cases hpi
  rw [State.ready_eq hpm hpe] at hstep
  refine ⟨hstep, fun t ht htime => ?_⟩
  have hfetch := s.takeInput.2.fetch_state
  obtain hold | ⟨hd9, hreti⟩ := (effect_of_exec (hstep.symm.trans ht)).control.imeRises htime
  · rw [hfetch, hpi] at hold
    cases hold
  · rw [hfetch, hpconf] at hreti
    exact ⟨hpc ▸ (State.fetch_eq_iff (op := 0xD9) rfl).mp hd9, hreti⟩

/-- An instruction keeps the invariant (R36, R71). -/
theorem inv_of_exec {i : Instr} {s t : State} (hinv : s.inv) (h : exec i s = .next t) : t.inv := by
  obtain ⟨hflags, ⟨l, -, hl⟩, -⟩ := effect_of_exec h
  exact ⟨hflags.low hinv.1, hl.wf hinv.2⟩

/-- Settles O19: F is written by instructions alone; memory is written by the platform, a push and instructions. -/
theorem stepKeepsInvariant : Obligations.StepKeepsInvariant := by
  intro s t ⟨hf, hwf⟩ h
  have hp : s.takeInput.2.inv := ⟨by rw [s.takeInput_eq]; exact hf, State.wf_takeInput hwf⟩
  by_cases ha : s.takeInput.2.awake s.takeInput.1
  case neg =>
    rw [step_of_not_awake ha] at h
    cases h
    exact hp
  case pos =>
    by_cases hd : s.takeInput.2.interruptDue
    case pos =>
      obtain ⟨v, p, hsel, hstep⟩ := step_of_due ha hd
      rw [hstep] at h
      cases h
      refine ⟨?_, State.wf_trapEntry v (State.wf_irqSelect hsel hp.2)⟩
      rw [State.trapEntry_eq, State.irqSelect_eq hsel]
      exact hp.1
    case neg =>
      rw [step_of_not_due ha hd] at h
      refine inv_of_exec ?_ h
      rw [State.fetch_state]
      exact hp

/-- Settles O20. -/
theorem resetMeetsInvariant : Obligations.ResetMeetsInvariant := by
  refine ⟨⟨⟨rfl, rfl, rfl, rfl⟩, ⟨rfl, rfl⟩, rfl, rfl, rfl, rfl, rfl, rfl⟩, fun irq => ?_⟩
  cases irq <;> exact ⟨⟨rfl, rfl, rfl, rfl⟩, ⟨rfl, rfl⟩, rfl, rfl⟩

end Sys2Proof.Machine
end

section
/-! PROOF. The statements on the interrupt interface and on handlers (O9 to O16). -/

namespace Sys2Proof.Machine

/-! ### IE and IF of the Game Boy -/

/-- The interface is one of the two that have IE and IF (R507). -/
def State.isGameBoy (s : State) : Prop := s.config.irq = .gameBoy ∨ s.config.irq = .gameBoyFlat

section
variable {s : State} (hs : s.isGameBoy)
include hs

theorem State.onPlatform_if : s.onPlatform 0xFF0F = false := by
  rw [Bool.eq_false_iff]
  exact fun h => (s.onPlatform_iff _).mp h |>.2 ⟨hs, .inl rfl⟩

theorem State.onPlatform_ie : s.onPlatform 0xFFFF = false := by
  rw [Bool.eq_false_iff]
  exact fun h => (s.onPlatform_iff _).mp h |>.2 ⟨hs, .inr rfl⟩

/-- IF reads as the byte held there, but for its fixed bits (R507). -/
theorem State.peek_if : s.peek 0xFF0F = s.latched 0xFF0F (s.mem.read ifAddress.toNat) := by
  rw [peek, onPlatform_if hs]
  rfl

theorem State.peek_ie : s.peek 0xFFFF = s.mem.read ieAddress.toNat := by
  rw [peek, onPlatform_ie hs]
  rcases hs with h | h <;> simp [highBitsFixed, h, ieAddress, ifAddress]

/-- A byte put into IF by the platform shows there and nowhere else (R507, R508). -/
theorem State.peek_writeIf (v : Byte) (b : Word) :
    ({ s with mem := s.mem.write ifAddress.toNat v } : State).peek b =
      if b = 0xFF0F then s.latched 0xFF0F v else s.peek b := by
  split
  · next hb =>
    rw [hb, peek_if (s := { s with mem := s.mem.write ifAddress.toNat v }) hs, Memory.read_write, if_pos rfl]
    rfl
  · next hb =>
    have hne : b.toNat ≠ ifAddress.toNat := fun h => hb (BitVec.eq_of_toNat_eq h)
    have hread : (s.mem.write ifAddress.toNat v).read b.toNat = s.mem.read b.toNat := by
      rw [Memory.read_write, if_neg hne]
    simp only [peek, hread]
    rfl

end

/-- The fixed bits of IF are above the five sources (R507). -/
theorem State.latched_bit (s : State) (a : Word) (v : Byte) (j : Nat) :
    (s.latched a v).getLsbD j = (v.getLsbD j || (s.highBitsFixed a && (0xE0 : Byte).getLsbD j)) := by
  unfold latched
  cases s.highBitsFixed a <;> simp

/-- Settles O13. -/
theorem deviceEventSetsIf : Obligations.DeviceEventSetsIf := by
  intro s x hs
  have happly : s.applyInput x =
      { s with mem := s.mem.write ifAddress.toNat (s.mem.read ifAddress.toNat ||| x.events.setWidth 8) } := by
    unfold State.applyInput
    rcases hs with h | h <;> rw [h]
  rw [happly]
  refine ⟨rfl, fun b hb => by rw [State.peek_writeIf hs, if_neg hb], fun j => ?_⟩
  rw [State.peek_writeIf hs, if_pos rfl, State.peek_if hs, State.latched_bit, State.latched_bit, BitVec.getLsbD_or,
    BitVec.getLsbD_setWidth]
  have hj : (decide (j < 8) && x.events.getLsbD j) = x.events.getLsbD j := by
    by_cases h : j < 8
    · simp [h]
    · simp [h, BitVec.getLsbD_of_ge x.events j (by omega)]
  rw [hj, Bool.or_right_comm]

/-- Settles O10. -/
theorem platformInputDelivers : Obligations.PlatformInputDelivers := by
  intro s
  refine ⟨State.takeInput_nil, ?_⟩
  intro x rest hin p q
  have htake : s.takeInput = (x.buttonPress, q.applyInput x) := by rw [State.takeInput, hin]
  have hp : p = q.applyInput x := congrArg Prod.snd htake
  have hirq : q.config.irq = s.config.irq := rfl
  refine ⟨congrArg Prod.fst htake, fun h => ?none, fun h => ?external, fun h => ?gameBoy⟩
  case none =>
    rw [hp, State.applyInput]
    rcases h with h | h <;> rw [hirq, h]
  case external => rw [hp, State.applyInput, hirq, h]
  case gameBoy =>
    have hif : s.peek 0xFF0F = q.peek 0xFF0F := by
      rw [State.peek_if (s := s) h, State.peek_if (s := q) h]
      rfl
    rw [hp, hif]
    exact deviceEventSetsIf q x h

/-- Settles O9. -/
theorem interruptInstances : Obligations.InterruptInstances := by
  intro s
  have none_requested : ∀ p : State, p.config.irq = .noInterrupts → p.irqRequested = false := fun p hp => by
    rw [State.irqRequested, hp]
  refine ⟨s.irqSelect_isSome, fun h => ?none, fun h => ?external, fun h => ?platform⟩
  case none =>
    have hconf : s.takeInput.2.config.irq = .noInterrupts := by rw [s.takeInput_eq]; exact h
    have hreq := none_requested _ hconf
    refine ⟨none_requested s h, by rw [State.irqSelect, h], fun hd => ?_, fun hmode => ?_⟩
    · exact Bool.false_ne_true (hreq ▸ hd.2)
    · have hpm : s.takeInput.2.mode = .halted := by rw [s.takeInput_eq]; exact hmode
      rw [step_of_not_awake (by simp [State.awake, hpm, hreq])]
      obtain ⟨hnil, hcons⟩ := platformInputDelivers s
      cases hin : s.inputs with
      | nil =>
        rw [hnil hin]
        refine congrArg Host.Outcome.next ?_
        apply State.ext <;> simp [hin]
      | cons x rest =>
        obtain ⟨-, hp, -⟩ := hcons x rest hin
        rw [hp (.inl h)]
        rfl
  case external =>
    refine ⟨?_, fun v rest hr => ?_⟩
    · rw [State.irqRequested, h]
      simp
    · rw [State.irqSelect, h]
      simp only [hr]
  case platform =>
    refine ⟨?_, fun v b hb => ?_⟩
    · rw [State.irqRequested, h]
      exact Option.isSome_iff_ne_none
    · rw [State.irqSelect, h, hb]
      rfl

/-! ### Selecting a source -/

/-- The lowest source is the one that is there with none below it (R507, R509). -/
theorem lowestSource_eq {p : Byte} {i : Fin 5} (hi : p.getLsbD i = true)
    (hlt : ∀ j : Fin 5, j < i → p.getLsbD j = false) : lowestSource p = some i.val := by
  refine List.find?_range_eq_some.mpr ⟨hi, List.mem_range.mpr i.isLt, fun j hj => ?_⟩
  simp [hlt ⟨j, hj.trans i.isLt⟩ hj]

/-- The requests are the sources set in both IE and IF as they read (R507). -/
theorem State.pendingSources_eq {s : State} (hs : s.isGameBoy) :
    s.pendingSources = s.peek 0xFFFF &&& s.peek 0xFF0F &&& 0x1F := by
  have mask : ∀ v : Byte, (v ||| 0xE0) &&& 0x1F = v &&& 0x1F := by decide +kernel
  rw [pendingSources, peek_ie hs, peek_if hs, latched]
  split
  · rw [BitVec.and_assoc, BitVec.and_assoc, mask]
  · rfl

/-- The acknowledge clears the bit of its source in IF alone (R507, R511). -/
theorem State.peek_acknowledge_if {s : State} (hs : s.isGameBoy) (i : Fin 5) (j : Nat) :
    ((s.acknowledge i).peek 0xFF0F).getLsbD j = (decide (j ≠ i) && (s.peek 0xFF0F).getLsbD j) := by
  have hfixed : (0xE0 : Byte).getLsbD i = false := by revert i; decide
  have hbit : (1#8 <<< i.val).getLsbD j = decide (j = i) := by
    rw [BitVec.getLsbD_shiftLeft, BitVec.getLsbD_one]
    simp only [← decide_not, ← Bool.decide_and, decide_eq_decide]
    omega
  rw [acknowledge, peek_writeIf hs, if_pos rfl, peek_if hs, latched_bit, latched_bit, BitVec.getLsbD_and,
    BitVec.getLsbD_not, hbit]
  by_cases hj : j = i
  · rw [hj, hfixed]
    simp
  · by_cases h8 : j < 8
    · simp [hj, h8]
    · simp [hj, h8, BitVec.getLsbD_of_ge _ j (Nat.le_of_not_lt h8)]

/-- Settles O12. -/
theorem gameBoySelect : Obligations.GameBoySelect := by
  intro s hs
  have hsel : s.irqSelect = (lowestSource s.pendingSources).map (fun i => (sourceVector i, s.acknowledge i)) := by
    unfold State.irqSelect
    rcases hs with h | h <;> rw [h]
  have hbit : ∀ j : Fin 5, s.pendingSources.getLsbD j = ((s.peek 0xFFFF).getLsbD j && (s.peek 0xFF0F).getLsbD j) := by
    intro j
    have hmask : (0x1F : Byte).getLsbD j = true := by revert j; decide
    rw [State.pendingSources_eq hs, BitVec.getLsbD_and, BitVec.getLsbD_and, hmask, Bool.and_true]
  refine ⟨?requested, fun h => ?fixed, fun i hie hif hlt => ?select⟩
  case requested =>
    rw [← State.pendingSources_eq hs]
    unfold State.irqRequested
    rcases hs with h | h <;> simp [h]
  case fixed =>
    have hset : ∀ v : Byte, (v ||| 0xE0) &&& 0xE0 = 0xE0 := by decide +kernel
    rw [State.peek_if hs, State.latched, if_pos (by simp [State.highBitsFixed, h, ifAddress])]
    exact hset _
  case select =>
    have hlow : lowestSource s.pendingSources = some i.val :=
      lowestSource_eq (by rw [hbit, hie, hif]; rfl) fun j hj => (hbit j).trans (hlt j hj)
    refine ⟨s.acknowledge i, ?_, rfl, fun b hb => ?_, State.peek_acknowledge_if hs i⟩
    · rw [hsel, hlow, BitVec.ofNat_add]
      rfl
    · rw [State.acknowledge, State.peek_writeIf hs, if_neg hb]

/-! ### Taking an interrupt -/

/-- Trap entry: the two bytes pushed, and the changes of registers (R511). -/
theorem State.exists_trapEntry_eq (s : State) (v : Word) :
    ∃ t, s.trapEntry v = t ∧ StoredWord s t (s.sp - 2) s.pc ∧
      t = { s with
        pc := v
        sp := s.sp - 2
        ime := false
        eiPending := false
        mode := .running
        mem := t.mem
        bus := ((s.memWrite (s.sp - 1) (highByte s.pc)).memWrite (s.sp - 2) (lowByte s.pc)).bus
        busLog := s.busLog.map (fun l =>
          l ++ [.write (s.sp - 1) (highByte s.pc), .write (s.sp - 2) (lowByte s.pc)]) } := by
  obtain ⟨t, hpush, hstored, hframe⟩ := ({ s with ime := false, eiPending := false } : State).exists_push16_eq s.pc
  refine ⟨_, rfl, ?_, ?_⟩
  · rw [trapEntry, hpush]
    exact hstored
  · rw [trapEntry, hpush]
    exact congrArg (fun u : State => { u with pc := v, mode := .running }) hframe

/-- Settles O11. -/
theorem interruptEntry : Obligations.InterruptEntry := by
  intro s p ha hd
  obtain ⟨v, p', hsel, hstep⟩ := step_of_due ha hd
  have hp' := State.irqSelect_eq hsel
  obtain ⟨t, ht, hstored, hframe⟩ := p'.exists_trapEntry_eq v
  have hsp : p'.sp = p.sp := by rw [hp']
  have hpc : p'.pc = p.pc := by rw [hp']
  have hlog : p'.busLog = p.busLog := by rw [hp']
  rw [hsp, hpc] at hstored
  rw [hsp, hpc, hlog] at hframe
  exact ⟨v, p', t, hsel, ht ▸ hstep, hp', hframe, hstored⟩

/-! ### The delay of EI -/

theorem not_interruptDue_of_ime {s : State} (h : s.ime = false) : ¬ s.interruptDue :=
  fun hd => Bool.false_ne_true (h.symm.trans hd.1)

/-- With no input left a running machine whose IME is 0 runs the instruction at pc (R510). -/
theorem step_of_ime_false {s : State} (hin : s.inputs = []) (hm : s.mode = .running) (hime : s.ime = false) :
    step s = exec s.ready.fetch.1 s.ready.fetch.2 := by
  have hstep := step_of_not_due (s := s)
  rw [State.takeInput_nil hin] at hstep
  exact hstep (.inl hm) (not_interruptDue_of_ime hime)

/-- The step after `EI` is past its interrupt check when ei_pending turns into IME (R510 stages 3 and 4). -/
theorem State.ready_of_eiPending {s : State} (hm : s.mode = .running) (hei : s.eiPending = true) :
    s.ready = { s with ime := true, eiPending := false } := by
  apply State.ext <;> simp [ready, hm, hei]

theorem step_of_eiPending {s : State} (hin : s.inputs = []) (hm : s.mode = .running) (hime : s.ime = false)
    (hei : s.eiPending = true) :
    let p := { s with ime := true, eiPending := false }
    step s = exec p.fetch.1 p.fetch.2 := by
  rw [step_of_ime_false hin hm hime, State.ready_of_eiPending hm hei]

/-- `EI` sets ei_pending, and IME stays 0 in its own step (R415). -/
theorem step_ei {s : State} (hin : s.inputs = []) (hm : s.mode = .running) (hime : s.ime = false)
    (hei : s.eiPending = false) (hpeek : s.peek s.pc = 0xFB) :
    step s = .next { (s.memRead s.pc).2 with eiPending := true, pc := s.pc + 1 } := by
  rw [step_of_ime_false hin hm hime, State.ready_eq hm hei, State.fetch_of_peek (i := .ei) rfl hpeek]
  rfl

/-- Either `DI` leaves IME and ei_pending at 0 (R413, R414). -/
theorem exec_di {i : Instr} {s : State} (h : i = .diF3 ∨ (i = .diD9 ∧ s.config.d9Meaning = .di)) :
    ∃ t, exec i s = .next t ∧ t.ime = false ∧ t.eiPending = false ∧ ¬ t.interruptDue := by
  obtain ⟨-, -, hF3, hD9, -⟩ := controlInstructions s
  rcases h with rfl | ⟨rfl, hdi⟩
  · exact ⟨_, hF3, rfl, rfl, not_interruptDue_of_ime rfl⟩
  · exact ⟨_, hD9 hdi, rfl, rfl, not_interruptDue_of_ime rfl⟩

/-- An instruction that is fetched and executed leaves the inputs to come as they are (log 6). -/
theorem inputs_of_exec_fetch {s t : State} (h : exec s.fetch.1 s.fetch.2 = .next t) : t.inputs = s.inputs := by
  obtain ⟨-, ⟨l, -, hl⟩, -⟩ := effect_of_exec h
  rw [hl.inputs, State.fetch_state]

/-- Settles O14: the step after `EI` runs its instruction, and the entry may come in the step after that. -/
theorem eiDelaysOneInstruction : Obligations.EiDelaysOneInstruction := by
  intro s hin hmode hime hei hpeek
  refine ⟨_, step_ei hin hmode hime hei hpeek, rfl, ?_⟩
  generalize ht : ({ (s.memRead s.pc).2 with eiPending := true, pc := s.pc + 1 } : State) = t
  have htin : t.inputs = [] := by rw [← ht]; exact hin
  have hconf : t.config = s.config := by rw [← ht]; rfl
  have hstep := step_of_eiPending (s := t) htin (by rw [← ht]; exact hmode) (by rw [← ht]; exact hime) (by rw [← ht])
  refine ⟨?next, ?entry⟩
  case next =>
    intro n i q hdec
    have hfetch : ({ t with ime := true, eiPending := false } : State).fetch = (i, q.2) := State.fetch_of_readBytes hdec
    have hexec : step t = exec i q.2 := by rw [hstep, hfetch]
    refine ⟨hexec, fun hdi => hexec ▸ exec_di (hdi.imp_right fun h => ⟨h.1, ?_⟩)⟩
    have hq : ({ t with ime := true, eiPending := false } : State).fetch.2.config = t.config := by
      rw [State.fetch_state]
    rw [hfetch] at hq
    exact (congrArg Config.d9Meaning (hq.trans hconf)).trans h.2
  case entry =>
    intro u hu ha hd
    have hin : u.inputs = [] := (inputs_of_exec_fetch (hstep.symm.trans hu)).trans htin
    have hentry := interruptEntry u
    rw [State.takeInput_nil hin] at hentry
    obtain ⟨v, p', w, hsel, hw, -, hframe, hstored⟩ := hentry ha hd
    exact ⟨v, p', w, hsel, hw, by rw [hframe], by rw [hframe], by rw [hframe], by rw [hframe], hstored⟩

/-! ### Handlers -/

theorem StoredWord.congr {s t u : State} {a v : Word} (h : StoredWord s t a v) (hm : u.mem = t.mem)
    (hut : u.config = t.config) (hts : t.config = s.config) : StoredWord s u a v := fun b hb =>
  (State.peek_congr_off ((State.onPlatform_congr hts b).trans hb) hm hut).trans (h b hb)

/-- What the entry of an interrupt leaves to the handler: interrupts are off, the registers are those of the
interrupted state, and POP16 gives the interrupted pc back and SP with it (R511, R513). -/
structure Entered (s t : State) : Prop where
  inputs : t.inputs = []
  mode : t.mode = .running
  ime : t.ime = false
  eiPending : t.eiPending = false
  f : t.f = s.f
  reg : ∀ r, t.reg r = s.reg r
  config : t.config = s.config
  pop : ∀ u : State, u.mem = t.mem → u.config = t.config → u.sp = t.sp →
    ∃ log, u.pop16 = (s.pc, { u with sp := s.sp, busLog := log })

theorem entered_of_step {s t : State} (hin : s.inputs = []) (hplain : s.stackIsPlain) (ha : s.awake false)
    (hd : s.interruptDue) (hstep : step s = .next t) : Entered s t := by
  have hentry := interruptEntry s
  rw [State.takeInput_nil hin] at hentry
  obtain ⟨v, p, t', -, ht', hp, hframe, hstored⟩ := hentry ha hd
  obtain rfl : t' = t := Host.Outcome.next.inj (ht'.symm.trans hstep)
  have hsp : p.sp = s.sp := by rw [hp]
  have hconf : t'.config = p.config := by rw [hframe]
  have hplain' : p.stackIsPlain := by rw [hp]; exact hplain
  exact {
    inputs := by rw [hframe, hp]; exact hin
    mode := by rw [hframe]
    ime := by rw [hframe]
    eiPending := by rw [hframe]
    f := by rw [hframe, hp]
    reg := fun r => by rw [hframe, hp]; cases r <;> rfl
    config := by rw [hframe, hp]
    pop := fun u hm hc husp => by
      have husp' : u.sp = p.sp - 2 := by rw [husp, hsp, hframe]
      rw [← hsp] at hstored ⊢
      exact State.pop16_of_storedWord hplain' (hstored.congr hm hc hconf) (hc.trans hconf) husp' }

/-- A read away from the platform's own bus changes the record alone (R73). -/
theorem State.exists_memRead_off {s : State} {x : Word} (h : s.onPlatform x = false) :
    ∃ l, (s.memRead x).2 = { s with busLog := l } :=
  ⟨_, congrArg Prod.snd (State.memRead_off h)⟩

/-- Settles O16: 0xD9 as `reti` pops the pc that the entry pushed. -/
theorem handlerReturnsByReti : Obligations.HandlerReturnsByReti := by
  intro s t hin hplain hreti ha hd hstep hoff hpeek
  have he := entered_of_step hin hplain ha hd hstep
  obtain ⟨l, hread⟩ := State.exists_memRead_off hoff
  obtain ⟨log, hpop⟩ := he.pop { t with busLog := l } rfl rfl rfl
  have hexec : step t = exec .diD9 { t with busLog := l } := by
    rw [step_of_ime_false he.inputs he.mode he.ime, State.ready_eq he.mode he.eiPending,
      State.fetch_of_peek (i := .diD9) rfl hpeek, hread]
  have hd9 : exec .diD9 { t with busLog := l } = .next ({ t with busLog := l } : State).trapReturn := by
    show execDiD9 _ = _
    rw [execDiD9, show ({ t with busLog := l } : State).config.d9Meaning = .reti from he.config ▸ hreti]
  rw [State.trapReturn_eq, hpop] at hd9
  exact ⟨_, hexec.trans hd9, rfl, rfl, rfl, he.eiPending, he.mode, he.f,
    fun r => .trans (by cases r <;> rfl) (he.reg r), rfl, State.peek_congr rfl rfl rfl⟩

/-- Settles O15: `EI` leaves IME at 0 for its own step, and the pending enable and the `RET` make the next one. -/
theorem handlerReturnsByEiRet : Obligations.HandlerReturnsByEiRet := by
  intro s t hin hplain ha hd hstep hoff hoff' hpeek hpeek'
  have he := entered_of_step hin hplain ha hd hstep
  obtain ⟨l, hread⟩ := State.exists_memRead_off hoff
  have hei := step_ei he.inputs he.mode he.ime he.eiPending hpeek
  rw [hread] at hei
  have hret := step_of_eiPending (s := { t with busLog := l, eiPending := true, pc := t.pc + 1 })
    he.inputs he.mode he.ime rfl
  obtain ⟨l', hread'⟩ := State.exists_memRead_off (s := { t with busLog := l, ime := true, eiPending := false, pc := t.pc + 1 })
    (x := t.pc + 1) hoff'
  obtain ⟨log, hpop⟩ := he.pop { t with busLog := l', ime := true, eiPending := false, pc := t.pc + 1 } rfl rfl rfl
  have hfetch : State.fetch { t with busLog := l, ime := true, eiPending := false, pc := t.pc + 1 } =
      (.ret, { t with busLog := l', ime := true, eiPending := false, pc := t.pc + 1 }) := by
    rw [State.fetch_of_peek (i := .ret) rfl ((State.peek_congr rfl rfl rfl _).trans hpeek'), hread']
  have hexec : step { t with busLog := l, eiPending := true, pc := t.pc + 1 } =
      ret { t with busLog := l', ime := true, eiPending := false, pc := t.pc + 1 } :=
    hret.trans (by rw [hfetch]; rfl)
  rw [ret, hpop] at hexec
  exact ⟨_, _, hei, he.ime, hexec, rfl, rfl, rfl, rfl, he.mode, he.f,
    fun r => .trans (by cases r <;> rfl) (he.reg r), rfl, State.peek_congr rfl rfl rfl⟩

end Sys2Proof.Machine
end
